-- ==== Sys2Proof/Word.lean ====
section
/-! DEFINITION. The byte and word types of the DXM-480 model. -/

namespace Sys2Proof

/-- One byte (R8). -/
abbrev Byte := BitVec 8

/-- A 64-byte descriptor as one little-endian number (scope file, "Descriptor", R8). -/
abbrev Desc := BitVec 512

end Sys2Proof
end

