-- ==== Sys2Proof/Config.lean ====
section
/-! DEFINITION. The free values and the functions of external standards: constants without a body, for what the spec
leaves open or gives only by naming a standard (assumption logs 5 and 6). -/

namespace Sys2Proof.Config

/-- How far, in FP32 steps, the device's value of function `fn` at input bits `x` lies from the correctly rounded
one. R132, R123 and R149 bound the error only; a step outside the bound is not taken (`Machine.withinUlp`). -/
opaque ulpOffset (fn x : Nat) : Int

/-- A fresh value of at most `bits` bits; `n` is the state's counter of values already drawn. -/
opaque freeValue (n bits : Nat) : Nat

/-- An INT32 output of an accumulate-into command whose β is NaN or whose β × C is infinite, by the bits of β and C: R69 shows no
entry for it. Bits 31:0 are the value, bit 32 whether it counts as saturated (log 84). -/
opaque int32Open (beta c : Nat) : Nat

/-- The cycles that a tile of a BF16 CONV waits for the bank of the tile before it, by the cycles of that tile's round-out and of
its own prepass: the spec does not place the claim before or after the prepass of R128 (log 38). -/
opaque convBankWait (roundOut prepass : Nat) : Nat

/-- The 64 bytes of a traffic generator's access for the patterns other than FIXED (R259), by the pattern, the seed and the access
(row, bank, access within the row, pseudo channel): the spec gives neither the order of a PRBS's bits nor where a walk begins
(log 79). -/
opaque tgenData (pattern seed access : Nat) : Nat

/-- The place of access `i` in the range of a traffic generator in random order (R259). -/
opaque tgenRandom (seed i : Nat) : Nat

/-- The features of R283 that the headers of a sample name. `process`: of JPEG 0 baseline sequential DCT, 1 progressive DCT; of WAV
the format tag; of Opus the channel mapping family. `arithmetic`: coded otherwise than by Huffman codes. `profile`: of AV1 and AVC 0
Main or High; of HEVC 0 Main, 1 Main 10. `chroma`: 0 monochrome, 1 4:2:0, 2 another. `level` is ten times the level; `high` the HEVC
High tier; `interlaced` not progressive frames; `other` any feature that R283 does not name. -/
structure Features where
  process : Nat := 0
  arithmetic : Bool := false
  bits : Nat := 8
  components : Nat := 3
  shifts : Nat × Nat := (0, 0)
  profile : Nat := 0
  chroma : Nat := 1
  level : Nat := 0
  high : Bool := false
  interlaced : Bool := false
  other : Bool := false
  deriving DecidableEq, Repr, Inhabited

/-- What a media decoder of R283 makes of one sample. `verdict`: 0 it decodes, 1 the data ends early, 2 syntax error or a failed
check. `head`: the headers that give the format have been read; `known`: so has a picture's size, and `declared` is the number of
audio frames where the headers give one. Of a video unit, `seqHdr`: it carries a sequence header, which gives `width` and `height`;
`random`: it is a random access point; `refs`: the units its frame references. `colour`: 0 grey, 1 Y'CbCr,
2 RGB; `matrix`: 0 none signalled, 1-3 as COLOUR, 4 another; `range`: 0 none, 1 LIMITED, 2 FULL. Planes hold component
values by row; `values` holds audio values interleaved, as integers, or as FP32 bits where `float`. -/
structure Media where
  verdict : Nat := 0
  head : Bool := true
  known : Bool := true
  declared : Option Nat := none
  features : Features := {}
  seqHdr : Bool := false
  random : Bool := false
  refs : List Nat := []
  width : Nat := 0
  height : Nat := 0
  colour : Nat := 0
  bits : Nat := 8
  matrix : Nat := 0
  range : Nat := 0
  subX : Nat := 0
  subY : Nat := 0
  planes : List (List Nat) := []
  channels : Nat := 0
  rate : Nat := 0
  float : Bool := false
  frames : Nat := 0
  values : List Int := []
  deriving DecidableEq, Repr, Inhabited

/-- The decoders of the standards that R283 names for stills and sound, by CONTAINER. -/
opaque mediaDecode (container : Nat) (data : List Byte) : Media

/-- The frame coded in access unit `i` of a video stream's units so far (R283, R285). -/
opaque videoDecode (container : Nat) (units : List (List Byte)) (i : Nat) : Media

/-- The access units, by position, whose frames the decoder has output so far, in display order; each unit comes
with its FLUSH flag (R272, R285). -/
opaque videoOrder (container : Nat) (units : List (Bool × List Byte)) : List Nat

/-- The access unit, by position, that codes the frame of a display number, once it has arrived (R273, R295). -/
opaque videoUnit (container : Nat) (units : List (List Byte)) (n : Nat) : Option Nat

/-- The working sample of a level-0 position that no image covers, where a higher pyramid level reads it: R286 gives
the position's output only. -/
opaque uncovered (plane x y : Nat) : Nat

/-- The FP32 value of a component that a stream's CHANNELS asks for and its source lacks (R288 states none). -/
opaque missingComponent (c x : Nat) : Nat

/-- The content of a crash-dump section of a type and unit in dump `seq`: R484 names what it lists and gives no layout. -/
opaque dumpSection (seq type unit : Nat) : List Byte

/-- The 64-bit words of SRAM that one pass of SRAM_SCRUB reads: R449 counts "other SRAM" without a size. -/
opaque sramWords : Nat

/-- The deviation of the Pavane clock measured at a time, ppm (R426 bounds it). -/
opaque pavaneDeviation (time : Nat) : Int

/-- SHAKE256 with `n` bytes of output (R488-R490), as a little-endian number. -/
opaque shake256 (n : Nat) (data : List Byte) : Nat

/-- ML-DSA-65 of FIPS 204, pure, empty context (R489): verification, signing, and the public key of a private key. -/
opaque mldsaVerify (key data sig : List Byte) : Bool
opaque mldsaSign (key : Nat) (data : List Byte) : Nat
opaque mldsaPublic (key : Nat) : Nat

end Sys2Proof.Config
end

