-- ==== Sys2Proof/Machine/Bits.lean ====
section
/-! DEFINITION. Bit fields, byte order, sparse lists, check sums: the plain helpers every meaning uses. -/

namespace Sys2Proof.Machine

/-- Bits `hi : lo` of `v`, as the field maps of the spec name them (R9). -/
def fld (v hi lo : Nat) : Nat := (v >>> lo) % 2 ^ (hi + 1 - lo)

/-- `v` with its bits `hi : lo` replaced by the low bits of `x`. -/
def setFld (v hi lo x : Nat) : Nat :=
  v - (fld v hi lo) * 2 ^ lo + (x % 2 ^ (hi + 1 - lo)) * 2 ^ lo

/-- Bit `i` of `v`. -/
def bit (v i : Nat) : Bool := v.testBit i

/-- `v` with bit `i` set to `b`. -/
def setBit (v i : Nat) (b : Bool) : Nat := setFld v i i (if b then 1 else 0)

def mib : Nat := 2 ^ 20

def b2n (b : Bool) : Nat := if b then 1 else 0

/-- Two's-complement reading of the low `w` bits. -/
def toSigned (w v : Nat) : Int :=
  let m := v % 2 ^ w
  if m < 2 ^ (w - 1) then (m : Int) else (m : Int) - (2 ^ w : Nat)

/-- The low `w` bits of an integer in two's complement. -/
def ofSigned (w : Nat) (x : Int) : Nat := (x % ((2 ^ w : Nat) : Int)).toNat

/-- `ceil(a / b)`. -/
def cdiv (a b : Nat) : Nat := (a + b - 1) / b

/-- `a` rounded up to a multiple of `b`. -/
def roundUp (a b : Nat) : Nat := cdiv a b * b

/-- `ceil(log2 n)`, and 0 for 0 and 1 (R61, R72). -/
def clog2 (n : Nat) : Nat := if n ≤ 1 then 0 else Nat.log2 (n - 1) + 1

/-- The `n` low bytes of `v`, least significant first (R8). -/
def leBytes : Nat → Nat → List Byte
  | 0, _ => []
  | n + 1, v => BitVec.ofNat 8 v :: leBytes n (v / 256)

/-- The number that little-endian bytes spell (R8). -/
def leNat : List Byte → Nat
  | [] => 0
  | b :: bs => b.toNat + 256 * leNat bs

/-- The `n` low bytes of `v`, most significant first (packet formats, R8). -/
def beBytes (n v : Nat) : List Byte := (leBytes n v).reverse

/-- The number that big-endian bytes spell. -/
def beNat (bs : List Byte) : Nat := leNat bs.reverse

def slice (bs : List Byte) (off len : Nat) : List Byte := (bs.drop off).take len

/-- A little-endian field of `len` bytes at `off`. -/
def leAt (bs : List Byte) (off len : Nat) : Nat := leNat (slice bs off len)

/-- `bs` padded with zero bytes to `n`, or cut there. -/
def padTo (n : Nat) (bs : List Byte) : List Byte := (bs ++ List.replicate (n - bs.length) 0#8).take n

/-- ASCII text of an object (R399, R413). -/
def ascii (s : String) : List Byte := s.toList.map fun c => BitVec.ofNat 8 c.toNat

/-- The largest member, or `d` of an empty list. -/
def listMax (d : Nat) (l : List Nat) : Nat := l.foldl Nat.max d

/-- The smallest of a list, if there is one. -/
def listMin? : List Nat → Option Nat
  | [] => none
  | x :: xs => some (xs.foldl Nat.min x)

/-- First listings only, in order (R308). -/
def firstListings (l : List Nat) : List Nat :=
  l.foldl (fun acc x => if acc.contains x then acc else acc ++ [x]) []

/-! ## Sparse lists: strictly rising keys, no entry equal to what an unlisted key reads as -/

/-- What key `k` reads as: its entry, or `d`. -/
def smGet {α : Type} (d : α) : List (Nat × α) → Nat → α
  | [], _ => d
  | (k', v) :: r, k => if k = k' then v else if k < k' then d else smGet d r k

/-- The list with key `k` reading `v` (an entry equal to `d` is left out). -/
def smSet {α : Type} [DecidableEq α] (d : α) : List (Nat × α) → Nat → α → List (Nat × α)
  | [], k, v => if v = d then [] else [(k, v)]
  | (k', v') :: r, k, v =>
    if k < k' then (if v = d then (k', v') :: r else (k, v) :: (k', v') :: r)
    else if k = k' then (if v = d then r else (k, v) :: r)
    else (k', v') :: smSet d r k v

/-- The canonical form, above a bound on the keys. -/
def smWfFrom {α : Type} [DecidableEq α] (d : α) : Nat → List (Nat × α) → Bool
  | _, [] => true
  | b, (k, v) :: r => decide (b ≤ k) && (decide (v ≠ d) && smWfFrom d (k + 1) r)

/-- The canonical form of a sparse list. -/
def smWf {α : Type} [DecidableEq α] (d : α) (l : List (Nat × α)) : Bool := smWfFrom d 0 l

/-- Every entry outside the keys that `p` names. -/
def smDrop {α : Type} (p : Nat → Bool) (l : List (Nat × α)) : List (Nat × α) := l.filter fun e => !p e.1

/-! ## Updates of a list by position -/

/-- The entry at `i`, or `d`. -/
def nth {α : Type} (d : α) (l : List α) (i : Nat) : α := l.getD i d

/-- `l` with entry `i` changed by `f` (unchanged where there is no entry `i`). -/
def modNth {α : Type} (l : List α) (i : Nat) (f : α → α) : List α := l.modify i f

/-- Every entry that meets `p` changed by `f`. -/
def mapIf {α : Type} (p : α → Bool) (f : α → α) (l : List α) : List α :=
  l.map fun x => if p x then f x else x

/-! ## Check sums -/

/-- One bit step of a reflected CRC-32 (IEEE 802.3, R30). -/
def crc32Bit (c : BitVec 32) : BitVec 32 :=
  if c.getLsbD 0 then (c >>> 1) ^^^ 0xEDB88320#32 else c >>> 1

def crc32Byte (c : BitVec 32) (b : Byte) : BitVec 32 :=
  (List.range 8).foldl (fun c _ => crc32Bit c) (c ^^^ b.zeroExtend 32)

/-- CRC-32 with the polynomial and bit order of IEEE 802.3 (R30). -/
def crc32 (bs : List Byte) : Nat := ((bs.foldl crc32Byte 0xFFFFFFFF#32) ^^^ 0xFFFFFFFF#32).toNat

def crc64Bit (c : BitVec 64) : BitVec 64 :=
  if c.getLsbD 63 then (c <<< 1) ^^^ 0x42F0E1EBA9EA3693#64 else c <<< 1

def crc64Byte (c : BitVec 64) (b : Byte) : BitVec 64 :=
  (List.range 8).foldl (fun c _ => crc64Bit c) (c ^^^ (b.zeroExtend 64 <<< 56))

/-- CRC-64 of R527: ECMA-182, initial value 0, not reflected, no final XOR. -/
def crc64 (bs : List Byte) : Nat := (bs.foldl crc64Byte 0#64).toNat

def crc16Bit (c : BitVec 16) : BitVec 16 :=
  if c.getLsbD 15 then (c <<< 1) ^^^ 0x1021#16 else c <<< 1

def crc16Byte (c : BitVec 16) (b : Byte) : BitVec 16 :=
  (List.range 8).foldl (fun c _ => crc16Bit c) (c ^^^ (b.zeroExtend 16 <<< 8))

/-- CRC-16 of R204: 0x1021, initial value 0xFFFF, no reflection, no final XOR. -/
def crc16 (bs : List Byte) : Nat := (bs.foldl crc16Byte 0xFFFF#16).toNat

end Sys2Proof.Machine
end

