-- ==== Sys2Proof/Machine/Num.lean ====
section
/-! DEFINITION. Element formats (R50, R52, R107), exact values and the one final rounding (R65-R69). -/

namespace Sys2Proof.Machine

/-- An exact rational value; `den` is positive wherever the model builds one. -/
structure Q where
  num : Int
  den : Nat
  deriving DecidableEq, Repr

namespace Q
def ofInt (n : Int) : Q := ⟨n, 1⟩
def zero : Q := ⟨0, 1⟩
def one : Q := ⟨1, 1⟩
def add (a b : Q) : Q := if a.den = b.den then ⟨a.num + b.num, a.den⟩ else ⟨a.num * b.den + b.num * a.den, a.den * b.den⟩
def neg (a : Q) : Q := ⟨-a.num, a.den⟩
def sub (a b : Q) : Q := a.add b.neg
def mul (a b : Q) : Q := ⟨a.num * b.num, a.den * b.den⟩
/-- `a / b`; the callers see to it that `b` is not zero. -/
def div (a b : Q) : Q := if b.num < 0 then ⟨-(a.num * b.den), a.den * b.num.natAbs⟩ else ⟨a.num * b.den, a.den * b.num.natAbs⟩
/-- `2 ^ t`. -/
def pow2 (t : Int) : Q := if 0 ≤ t then ⟨((2 ^ t.toNat : Nat) : Int), 1⟩ else ⟨1, 2 ^ (-t).toNat⟩
def scale (a : Q) (t : Int) : Q := a.mul (pow2 t)
def isZero (a : Q) : Bool := a.num == 0
def isNeg (a : Q) : Bool := decide (a.num < 0)
def abs (a : Q) : Q := ⟨a.num.natAbs, a.den⟩
def le (a b : Q) : Bool := decide (a.num * b.den ≤ b.num * a.den)
def lt (a b : Q) : Bool := decide (a.num * b.den < b.num * a.den)
def eq (a b : Q) : Bool := decide (a.num * b.den = b.num * a.den)
/-- `floor |a|`. -/
def floorAbs (a : Q) : Nat := a.num.natAbs / a.den
/-- The integer nearest to zero from `a` (R58: truncation toward zero). -/
def trunc (a : Q) : Int := if a.num < 0 then -(a.floorAbs : Int) else (a.floorAbs : Int)
/-- `floor(log2 |a|)` of a nonzero value. -/
def log2 (a : Q) : Int :=
  let n := a.num.natAbs
  let e : Int := (Nat.log2 n : Int) - (Nat.log2 a.den : Int)
  let small := if 0 ≤ e then decide (n < a.den * 2 ^ e.toNat) else decide (n * 2 ^ (-e).toNat < a.den)
  if small then e - 1 else e
end Q

/-- The element formats of R107. -/
inductive Fmt where
  | fp4 | e4m3 | e5m2 | int8 | fp16 | bf16 | fp32 | int32 | acc96 | code8
  deriving DecidableEq, Repr

/-- FORMAT codes of R107; 0xA-0xF are reserved. -/
def Fmt.ofCode : Nat → Option Fmt
  | 0 => some .fp4 | 1 => some .e4m3 | 2 => some .e5m2 | 3 => some .int8 | 4 => some .fp16
  | 5 => some .bf16 | 6 => some .fp32 | 7 => some .int32 | 8 => some .acc96 | 9 => some .code8
  | _ => none

/-- Bits of one element (R107). -/
def Fmt.bits : Fmt → Nat
  | .fp4 => 4 | .e4m3 => 8 | .e5m2 => 8 | .int8 => 8 | .fp16 => 16 | .bf16 => 16 | .fp32 => 32
  | .int32 => 32 | .acc96 => 96 | .code8 => 8

/-- Bytes of one element; FP4 counts 1 here and is packed by `R51` where it is addressed. -/
def Fmt.bytes (f : Fmt) : Nat := cdiv f.bits 8

def Fmt.isFloat : Fmt → Bool
  | .fp4 | .e4m3 | .e5m2 | .fp16 | .bf16 | .fp32 => true
  | _ => false

/-- Mantissa width, bias, exponent width of a floating-point format (R50). -/
structure FpPar where
  m : Nat
  bias : Int
  e : Nat
  /-- largest finite magnitude, as bits without the sign -/
  maxBits : Nat
  nanBits : Nat
  deriving DecidableEq, Repr

/-- The parameters of R50 and the canonical NaNs of R69 (FP4 has no NaN). -/
def Fmt.par : Fmt → FpPar
  | .fp4  => ⟨1, 1, 2, 0x7, 0⟩
  | .e4m3 => ⟨3, 7, 4, 0x7E, 0x7F⟩
  | .e5m2 => ⟨2, 15, 5, 0x7B, 0x7E⟩
  | .fp16 => ⟨10, 15, 5, 0x7BFF, 0x7E00⟩
  | .bf16 => ⟨7, 127, 8, 0x7F7F, 0x7FC0⟩
  | _     => ⟨23, 127, 8, 0x7F7FFFFF, 0x7FC00000⟩

/-- A decoded element: NaN, an infinity, or `(-1)^neg * mag * 2^exp`. -/
inductive Val where
  | nan
  | inf (neg : Bool)
  | fin (neg : Bool) (mag : Nat) (exp : Int)
  deriving DecidableEq, Repr

def signQ (neg : Bool) (a : Q) : Q := if neg then a.neg else a

/-- The exact value of a finite element; 0 for the others. -/
def Val.q : Val → Q
  | .fin n m e => signQ n ((Q.ofInt m).scale e)
  | _ => Q.zero

def Val.isZero : Val → Bool
  | .fin _ m _ => m == 0
  | _ => false

def Val.isNan : Val → Bool
  | .nan => true
  | _ => false

def Val.isInf : Val → Bool
  | .inf _ => true
  | _ => false

def Val.isFin : Val → Bool
  | .fin .. => true
  | _ => false

/-- The sign bit a value carries. -/
def Val.neg : Val → Bool
  | .nan => false
  | .inf n => n
  | .fin n _ _ => n

def Val.zero : Val := .fin false 0 0

/-- The element that bits of a floating-point format stand for (R50). -/
def decodeFp (f : Fmt) (v : Nat) : Val :=
  let p := f.par
  let frac := v % 2 ^ p.m
  let b := (v >>> p.m) % 2 ^ p.e
  let neg := bit v (p.m + p.e)
  let special := match f with
    | .fp4 => false
    | .e4m3 => b == 15 && frac == 7
    | _ => b == 2 ^ p.e - 1
  if special then
    (if f != .e4m3 && frac == 0 then .inf neg else .nan)
  else if b = 0 then .fin neg frac (1 - p.bias - p.m)
  else .fin neg (2 ^ p.m + frac) ((b : Int) - p.bias - p.m)

/-- The element that bits of any numeric format stand for. -/
def decodeEl (f : Fmt) (v : Nat) : Val :=
  match f with
  | .int8 => let x := toSigned 8 v; .fin (decide (x < 0)) x.natAbs 0
  | .int32 => let x := toSigned 32 v; .fin (decide (x < 0)) x.natAbs 0
  | .acc96 => let x := toSigned 96 v; .fin (decide (x < 0)) x.natAbs 0
  | .code8 => .fin false (v % 256) 0
  | _ => decodeFp f v

/-- The biased exponent field of a BF16 element (R59, R60). -/
def bf16Exp (v : Nat) : Nat := fld v 14 7

/-- The exponent rule of R72 for exact values: max(floor(log2 |x|) + 1, -125), and -125 for zero; equal to
E(x) of R59 for every value that FP32 holds. -/
def exactExp (q : Q) : Int := if q.isZero then -125 else max (q.log2 + 1) (-125)

/-- A block scale (R52): none is NaN. -/
def scaleExp (b : Nat) : Option Int := if b = 0xFF then none else some ((b : Int) - 127)

/-- How a value is rounded: to nearest even, or stochastically with the low 24 bits of a draw (R66, R67). -/
inductive Rnd where
  | rne
  | stoch (draw : Nat)
  deriving DecidableEq, Repr

/-- Does `r` of the way from one grid point to the next (`r / d`, `0 ≤ r < d`) round away from zero? -/
def roundsUp (rnd : Rnd) (odd atTop : Bool) (r d : Nat) : Bool :=
  match rnd with
  | .rne => if 2 * r = d then odd || atTop else decide (2 * r > d)
  | .stoch draw => decide (draw % 2 ^ 24 < (r * 2 ^ 24) / d)

/-- What the special-value rows of R69 and R528 leave of an output element. -/
inductive Cond where
  | nan
  | inf (neg : Bool)
  | exact (q : Q)
  deriving DecidableEq, Repr

/-- Which counter of R74 an output falls under. -/
inductive OutKind where
  | plain | nan | inf | sat
  deriving DecidableEq, Repr

structure Out where
  bits : Nat
  kind : OutKind
  deriving DecidableEq, Repr

/-- Formats that hold infinities on output; E4M3 and E5M2 (and FP4) saturate (R69). -/
def Fmt.infOut : Fmt → Bool
  | .fp16 | .bf16 | .fp32 => true
  | _ => false

def signBits (f : Fmt) (neg : Bool) (mag : Nat) : Nat := if neg then mag + 2 ^ (f.bits - 1) else mag

/-- An infinity of one sign written into `f` (rows 4 and 5 of R69). -/
def outInf (f : Fmt) (neg : Bool) : Out :=
  if f.infOut then ⟨signBits f neg ((2 ^ f.par.e - 1) * 2 ^ f.par.m), .inf⟩
  else ⟨signBits f neg f.par.maxBits, .sat⟩

/-- An exact nonzero magnitude on the grid of R66: bits without the sign (they pass `maxBits` on overflow). -/
def gridBits (f : Fmt) (rnd : Rnd) (a : Q) : Nat :=
  let p := f.par
  let emin : Int := 1 - p.bias
  let emax : Int := ((p.maxBits >>> p.m : Nat) : Int) - p.bias
  let e := min (max a.log2 emin) emax
  let u := a.abs.scale ((p.m : Int) - e)
  let n := u.num.natAbs / u.den
  let r := u.num.natAbs % u.den
  let low := (e - emin).toNat * 2 ^ p.m + n
  if r != 0 && roundsUp rnd (n % 2 == 1) (low == p.maxBits) r u.den then low + 1 else low

/-- Rounding of an exact value into a floating-point format (R66-R68, row 5 of R69). -/
def roundFp (f : Fmt) (rnd : Rnd) (a : Q) : Out :=
  if a.isZero then ⟨0, .plain⟩
  else
    let g := gridBits f rnd a
    if g > f.par.maxBits then outInf f a.isNeg else ⟨signBits f a.isNeg g, .plain⟩

/-- The nearest integer (or the stochastic choice) of an exact value, with its sign. -/
def roundInt (rnd : Rnd) (a : Q) : Int :=
  let n := a.num.natAbs / a.den
  let r := a.num.natAbs % a.den
  let m := if r != 0 && roundsUp rnd (n % 2 == 1) false r a.den then n + 1 else n
  if a.isNeg then -(m : Int) else (m : Int)

/-- Rounding into a two's-complement integer of `w` bits, saturating (R69 row 5, R134). -/
def roundIntSat (w : Nat) (rnd : Rnd) (a : Q) : Out :=
  let x := roundInt rnd a
  let hi : Int := ((2 ^ (w - 1) : Nat) : Int) - 1
  let lo : Int := -((2 ^ (w - 1) : Nat) : Int)
  if x > hi then ⟨ofSigned w hi, .sat⟩ else if x < lo then ⟨ofSigned w lo, .sat⟩ else ⟨ofSigned w x, .plain⟩

/-- The output of R69 once its conditions are known: canonical NaN, infinity or saturation, or one rounding. -/
def finish (f : Fmt) (rnd : Rnd) (c : Cond) : Out :=
  match f, c with
  | .int32, .exact q => roundIntSat 32 rnd q
  | .int8, .exact q => roundIntSat 8 rnd q
  | .int32, .inf n => ⟨ofSigned 32 (if n then -(2 ^ 31 : Int) else 2 ^ 31 - 1), .sat⟩
  | .int8, .inf n => ⟨ofSigned 8 (if n then -128 else 127), .sat⟩
  | .int32, .nan => ⟨0, .plain⟩
  | .int8, .nan => ⟨0, .plain⟩
  | _, .nan => ⟨f.par.nanBits, .nan⟩
  | _, .inf n => outInf f n
  | _, .exact q => roundFp f rnd q

/-! ## FP32 arithmetic (R71): exact, then one rounding to nearest even -/

def f32 (bits : Nat) : Val := decodeFp .fp32 bits

def condOf : Val → Cond
  | .nan => .nan
  | .inf n => .inf n
  | v => .exact v.q

/-- The condition and sign of a sum of two values; a zero sum is +0 unless both are -0. -/
def addCond (a b : Val) : Cond :=
  match a, b with
  | .nan, _ => .nan
  | _, .nan => .nan
  | .inf x, .inf y => if x = y then .inf x else .nan
  | .inf x, _ => .inf x
  | _, .inf y => .inf y
  | _, _ => .exact (a.q.add b.q)

/-- The condition of a product; infinity times zero is NaN. -/
def mulCond (a b : Val) : Cond :=
  match a, b with
  | .nan, _ => .nan
  | _, .nan => .nan
  | .inf x, y => if y.isZero then .nan else .inf (x != y.neg)
  | x, .inf y => if x.isZero then .nan else .inf (x.neg != y)
  | _, _ => .exact (a.q.mul b.q)

def Val.negate : Val → Val
  | .nan => .nan
  | .inf n => .inf (!n)
  | .fin n m e => .fin (!n) m e

/-- FP32 bits of a condition, with the IEEE sign of an exact zero given. -/
def f32Of (c : Cond) (zeroNeg : Bool) : Nat :=
  match c with
  | .exact q => if q.isZero then signBits .fp32 zeroNeg 0 else (roundFp .fp32 .rne q).bits
  | c => (finish .fp32 .rne c).bits

/-- Sign of an exactly zero IEEE sum of two values. -/
def zeroSumNeg (a b : Val) : Bool := a.isZero && b.isZero && a.neg && b.neg

def f32Add (a b : Nat) : Nat := f32Of (addCond (f32 a) (f32 b)) (zeroSumNeg (f32 a) (f32 b))
def f32Sub (a b : Nat) : Nat := f32Of (addCond (f32 a) (f32 b).negate) (zeroSumNeg (f32 a) (f32 b).negate)
def f32Mul (a b : Nat) : Nat := f32Of (mulCond (f32 a) (f32 b)) ((f32 a).neg != (f32 b).neg)

/-- `a * b + c` of decoded values before its one rounding. -/
def fmaCond (a b c : Val) : Cond :=
  match mulCond a b with
  | .nan => .nan
  | .inf x => (match c with
    | .nan => .nan
    | .inf y => if x = y then .inf x else .nan
    | _ => .inf x)
  | .exact q => (match c with
    | .nan => .nan
    | .inf y => .inf y
    | v => .exact (q.add v.q))

def fmaZeroNeg (a b c : Val) : Bool := (a.neg != b.neg) && c.neg && (a.isZero || b.isZero) && c.isZero

def f32Fma (a b c : Nat) : Nat := f32Of (fmaCond (f32 a) (f32 b) (f32 c)) (fmaZeroNeg (f32 a) (f32 b) (f32 c))

/-- The condition of a quotient. -/
def divCond (a b : Val) : Cond :=
  match a, b with
  | .nan, _ => .nan
  | _, .nan => .nan
  | .inf _, .inf _ => .nan
  | .inf x, y => .inf (x != y.neg)
  | _, .inf _ => .exact Q.zero
  | x, y => if y.isZero then (if x.isZero then .nan else .inf (x.neg != y.neg)) else .exact (x.q.div y.q)

def f32Div (a b : Nat) : Nat := f32Of (divCond (f32 a) (f32 b)) ((f32 a).neg != (f32 b).neg)

/-- Integer square root, bit by bit from bit `k` down. -/
def isqrtBits : Nat → Nat → Nat → Nat
  | 0, _, r => r
  | k + 1, n, r => let r' := r + 2 ^ k; isqrtBits k n (if r' * r' ≤ n then r' else r)

def isqrt (n : Nat) : Nat := isqrtBits (Nat.log2 n / 2 + 1) n 0

/-- A value with the same FP32 rounding as the square root of `a ≥ 0`: 80 bits of it, with a sticky half. -/
def sqrtQ (a : Q) : Q :=
  if a.isZero then Q.zero
  else
    let sh : Int := 80 - a.log2 / 2
    let u := a.scale (2 * sh)
    let n := u.num.natAbs / u.den
    let r := isqrt n
    let exact := r * r = n ∧ u.num.natAbs % u.den = 0
    (if exact then Q.ofInt r else ⟨2 * r + 1, 2⟩ : Q).scale (-sh)

/-- The correctly rounded FP32 square root. -/
def f32Sqrt (a : Nat) : Nat :=
  match f32 a with
  | .nan => 0x7FC00000
  | .inf n => if n then 0x7FC00000 else 0x7F800000
  | v => if v.isZero then a % 2 ^ 32 else if v.neg then 0x7FC00000 else (roundFp .fp32 .rne (sqrtQ v.q)).bits

/-- FP32 bits of an exact value. -/
def f32OfQ (q : Q) : Nat := (roundFp .fp32 .rne q).bits

/-! ## Anchored sums (R72, R528) -/

/-- One addend: a stored value, or the exact product of two. -/
abbrev Addend := Cond

/-- The integer sum of finite addends in the frame of R72, as an exact value: `n` is the number of addends. -/
def anchoredExact (n : Nat) (qs : List Q) : Q :=
  let emax := qs.foldl (fun m q => max m (exactExp q)) (-125)
  let w : Int := emax + clog2 n + 1 - 95
  let t := qs.foldl (fun (acc : Int) q => acc + (q.scale (-w)).trunc) 0
  (Q.ofInt t).scale w

/-- Rows 1-4 of R528, then the anchored sum. -/
def anchoredSum (l : List Addend) : Cond :=
  if l.any (fun c => c == .nan) then .nan
  else if l.any (fun c => c == .inf false) && l.any (fun c => c == .inf true) then .nan
  else if l.any (fun c => c == .inf false) then .inf false
  else if l.any (fun c => c == .inf true) then .inf true
  else .exact (anchoredExact l.length (l.filterMap fun c => match c with | .exact q => some q | _ => none))

/-- A condition scaled by an exact positive divisor (R90: the average). -/
def condDiv (c : Cond) (n : Nat) : Cond :=
  match c with
  | .exact q => .exact ⟨q.num, q.den * n⟩
  | c => c

/-! ## Comparisons of elements (R90, R132) -/

/-- Is `a` larger than `b`, with +0 above -0? (NaN is handled by the caller.) -/
def valLt (a b : Val) : Bool :=
  match a, b with
  | .inf x, .inf y => x && !y
  | .inf x, _ => x
  | _, .inf y => !y
  | a, b => a.q.lt b.q || (a.isZero && b.isZero && a.neg && !b.neg)

def valMax (a b : Val) : Val := if a.isNan || b.isNan then .nan else if valLt a b then b else a
def valMin (a b : Val) : Val := if a.isNan || b.isNan then .nan else if valLt b a then b else a

/-- Is `v > 0`? False of NaN. -/
def valPos : Val → Bool
  | .nan => false
  | .inf n => !n
  | v => !v.neg && !v.isZero

/-- The bits of a value written into `f` with one rounding; the sign of a zero is kept (elementwise results). -/
def outVal (f : Fmt) (rnd : Rnd) (v : Val) : Out :=
  if v.isZero && f.isFloat then ⟨signBits f v.neg 0, .plain⟩ else finish f rnd (condOf v)

end Sys2Proof.Machine
end

