-- ==== Sys2Proof/Machine/Func.lean ====
section
/-! DEFINITION. The FP32 functions of R132, R123, R149 and R151: exact values to far more bits than any rounding
needs, and the free choice within the stated error. -/

namespace Sys2Proof.Machine

/-- Fraction bits of the fixed-point values below. -/
def fxBits : Nat := 420

def fxOne : Int := 2 ^ 420

/-- A fixed-point value as an exact one. -/
def fxQ (v : Int) : Q := ⟨v, 2 ^ 420⟩

/-- The fixed-point value nearest below an exact value. -/
def fxOf (q : Q) : Int := (q.num * fxOne) / (q.den : Int)

def fxMul (a b : Int) : Int := (a * b) / fxOne
def fxDiv (a b : Int) : Int := (a * fxOne) / b

/-- `sum of r^k / k!` from the term `t` with number `k`, for `n` terms. -/
def fxExpTail : Nat → Nat → Int → Int → Int → Int
  | 0, _, _, _, acc => acc
  | n + 1, k, r, t, acc => fxExpTail n (k + 1) r (fxMul t r / ((k : Int) + 1)) (acc + t)

/-- `2 * (t + t^3/3 + t^5/5 + ...)`, which is `ln ((1+t)/(1-t))`. -/
def fxAtanhTail : Nat → Nat → Int → Int → Int → Int
  | 0, _, _, _, acc => acc
  | n + 1, k, t2, p, acc => fxAtanhTail n (k + 1) t2 (fxMul p t2) (acc + 2 * p / (2 * (k : Int) + 1))

def fxLn2 : Int := fxAtanhTail 150 0 (fxMul (fxOne / 3) (fxOne / 3)) (fxOne / 3) 0

/-- `e ^ q` for `|q| ≤ 400`. -/
def fxExp (q : Q) : Int :=
  let x := fxOf q
  let k := (x + fxLn2 / 2) / fxLn2
  let e := fxExpTail 100 0 (x - k * fxLn2) fxOne 0
  if 0 ≤ k then e * (2 ^ k.toNat : Nat) else e / (2 ^ (-k).toNat : Nat)

/-- `ln y` of a fixed-point value in `[1, 2]`. -/
def fxLnUnit (y : Int) : Int :=
  let t := fxDiv (y - fxOne) (y + fxOne)
  fxAtanhTail 150 0 (fxMul t t) t 0

/-- `ln q` of a positive exact value. -/
def fxLn (q : Q) : Int :=
  let e := q.log2
  fxLnUnit (fxOf (q.scale (-e))) + e * fxLn2

/-- `ln (1 + y)` for a fixed-point `y ≥ 0`, `y < 2 ^ 40`. -/
def fxLn1p (y : Int) : Int := if y ≤ fxOne then fxLnUnit (fxOne + y) else fxLn (fxQ (fxOne + y))

/-- `atan (1 / n)`. -/
def fxAtanInv : Nat → Nat → Int → Int → Int → Int
  | 0, _, _, _, acc => acc
  | j + 1, k, n2, p, acc =>
    fxAtanInv j (k + 1) n2 (p / n2) (if k % 2 = 0 then acc + p / (2 * (k : Int) + 1) else acc - p / (2 * (k : Int) + 1))

/-- Pi, by Machin's formula. -/
def fxPi : Int := 16 * fxAtanInv 100 0 25 (fxOne / 5) 0 - 4 * fxAtanInv 60 0 57121 (fxOne / 239) 0

def fxSqrt (v : Int) : Int := (isqrt (v.toNat * fxOne.toNat) : Nat)

/-- The normal density at `q`. -/
def fxPhi (q : Q) : Int := fxDiv (fxExp (⟨-(q.num * q.num), q.den * q.den * 2⟩)) (fxSqrt (2 * fxPi))

/-- `x + x^3/3 + x^5/15 + ...`, whose product with the density is `Phi - 1/2`. -/
def fxPhiTail : Nat → Nat → Int → Int → Int → Int
  | 0, _, _, _, acc => acc
  | n + 1, k, x2, p, acc => fxPhiTail n (k + 1) x2 (fxMul p x2 / (2 * (k : Int) + 3)) (acc + p)

/-- The normal distribution function for `|q| ≤ 15`, beyond which every use is within half a place of its limit. -/
def fxNormal (q : Q) : Int :=
  let x := fxOf q
  fxOne / 2 + fxMul (fxPhi q) (fxPhiTail 900 0 (fxMul x x) x 0)

/-- The logistic function for `|q| ≤ 400`. -/
def fxSigmoid (q : Q) : Int :=
  if q.isNeg then (let e := fxExp q; fxDiv e (fxOne + e)) else fxDiv fxOne (fxOne + fxExp q.neg)

/-- A nonzero value too small for any format, with a sign. -/
def tinyQ (neg : Bool) : Q := signQ neg ⟨1, 2 ^ 400⟩

/-! ## The choice within a stated error -/

/-- FP32 bits as an integer that grows with the value. -/
def f32Order (b : Nat) : Int := if bit b 31 then -((b % 2 ^ 31 : Nat) : Int) else (b % 2 ^ 32 : Nat)

def f32FromOrder (i : Int) : Nat := if i < 0 then signBits .fp32 true i.natAbs else i.toNat

/-- One unit in the last place of an FP32 result of value `v`. -/
def ulpQ (v : Q) : Q := Q.pow2 ((if v.isZero then -126 else max v.log2 (-126)) - 23)

/-- Does FP32 value `c` lie within `n` units in the last place of the exact `v`? -/
def withinUlp (n c : Nat) (v : Q) : Bool :=
  match f32 c with
  | .fin g m e => ((Val.fin g m e).q.sub v).abs.le ((ulpQ v).mul (Q.ofInt n))
  | _ => false

/-- The FP32 value of a function whose error is at most `n` ulp: the correctly rounded one, moved by the free
offset where the moved value still lies within the bound and keeps the sign (assumption log 5). -/
def freeUlp (fn n x : Nat) (v : Q) : Nat :=
  let r := (roundFp .fp32 .rne v).bits
  let c := f32FromOrder (f32Order r + Config.ulpOffset fn x)
  if !v.isZero && withinUlp n r v && withinUlp n c v && bit c 31 == bit r 31 then c else r

/-! ## The functions of R132; `x` is an FP32 value's bits -/

/-- EXP: `e^A`, 1 ulp. -/
def fnExpQ (q : Q) : Q :=
  if (Q.ofInt 400).lt q then Q.pow2 400 else if q.lt (Q.ofInt (-250)) then tinyQ false else fxQ (fxExp q)

def fnExp (x : Nat) : Nat :=
  match f32 x with
  | .nan => 0x7FC00000
  | .inf n => if n then 0 else 0x7F800000
  | v => freeUlp 0x0C 1 x (fnExpQ v.q)

/-- LOG: `ln A`; NaN below zero, -infinity at either zero. -/
def fnLog (x : Nat) : Nat :=
  match f32 x with
  | .nan => 0x7FC00000
  | .inf n => if n then 0x7FC00000 else 0x7F800000
  | v => if v.isZero then 0xFF800000 else if v.neg then 0x7FC00000 else freeUlp 0x0D 1 x (fxQ (fxLn v.q))

/-- SIGMOID, 2 ulp. -/
def fnSigmoidQ (q : Q) : Q :=
  if (Q.ofInt 250).lt q then fxQ (fxOne - 1) else if q.lt (Q.ofInt (-250)) then tinyQ false else fxQ (fxSigmoid q)

def fnSigmoid (x : Nat) : Nat :=
  match f32 x with
  | .nan => 0x7FC00000
  | .inf n => if n then 0 else 0x3F800000
  | v => freeUlp 0x09 2 x (fnSigmoidQ v.q)

/-- TANH, 2 ulp; a zero keeps its sign. -/
def fnTanh (x : Nat) : Nat :=
  match f32 x with
  | .nan => 0x7FC00000
  | .inf n => if n then 0xBF800000 else 0x3F800000
  | v =>
    if v.isZero then x % 2 ^ 32
    else
      let a := v.q.abs
      let t := if (Q.ofInt 100).lt a then fxQ (fxOne - 1)
        else (let e := fxExp (a.mul (Q.ofInt (-2))); fxQ (fxDiv (fxOne - e) (fxOne + e)))
      freeUlp 0x0A 2 x (signQ v.neg t)

/-- SOFTPLUS: `ln (1 + e^A)`, `A` itself above 20, 2 ulp. -/
def fnSoftplus (x : Nat) : Nat :=
  match f32 x with
  | .nan => 0x7FC00000
  | .inf n => if n then 0 else 0x7F800000
  | v =>
    if (Q.ofInt 20).lt v.q then x % 2 ^ 32
    else if v.q.lt (Q.ofInt (-250)) then freeUlp 0x0B 2 x (tinyQ false)
    else freeUlp 0x0B 2 x (fxQ (fxLn1p (fxExp v.q)))

/-- RECIP: correctly rounded. -/
def fnRecip (x : Nat) : Nat := f32Div 0x3F800000 x

/-- RSQRT, 1 ulp. -/
def fnRsqrt (x : Nat) : Nat :=
  match f32 x with
  | .nan => 0x7FC00000
  | .inf n => if n then 0x7FC00000 else 0
  | v =>
    if v.isZero then (if v.neg then 0xFF800000 else 0x7F800000)
    else if v.neg then 0x7FC00000
    else freeUlp 0x0F 1 x ((Q.one.div (sqrtQ v.q)))

/-- GELU: `A * Phi(A)`, 3 ulp. -/
def fnGelu (x : Nat) : Nat :=
  match f32 x with
  | .nan => 0x7FC00000
  | .inf n => if n then 0x80000000 else 0x7F800000
  | v =>
    if v.isZero then x % 2 ^ 32
    else if v.q.lt (Q.ofInt (-15)) then freeUlp 0x10 3 x (tinyQ true)
    else if (Q.ofInt 15).lt v.q then freeUlp 0x10 3 x v.q
    else freeUlp 0x10 3 x (v.q.mul (fxQ (fxNormal v.q)))

/-- SILU: `A * sigmoid(A)`, 3 ulp. -/
def fnSilu (x : Nat) : Nat :=
  match f32 x with
  | .nan => 0x7FC00000
  | .inf n => if n then 0x80000000 else 0x7F800000
  | v =>
    if v.isZero then x % 2 ^ 32
    else if v.q.lt (Q.ofInt (-250)) then freeUlp 0x11 3 x (tinyQ true)
    else freeUlp 0x11 3 x (v.q.mul (fnSigmoidQ v.q))

/-- `1 - e^-y` of SOFTPLUS_BWD, 2 ulp (R149). -/
def fnOneMinusExp (x : Nat) : Nat :=
  match f32 x with
  | .nan => 0x7FC00000
  | .inf n => if n then 0xFF800000 else 0x3F800000
  | v =>
    if v.isZero then 0
    else freeUlp 0x24 2 x (Q.one.sub (fnExpQ v.q.neg))

/-! ## Side codes (R151) -/

/-- `192 * d(x)` as an exact value close enough to round. -/
def geluPrimeQ (q : Q) : Q :=
  if (Q.ofInt 15).lt q then Q.one else if q.lt (Q.ofInt (-15)) then Q.zero
  else fxQ (fxNormal q + fxMul (fxOf q) (fxPhi q))

def siluPrimeQ (q : Q) : Q :=
  if (Q.ofInt 250).lt q then Q.one else if q.lt (Q.ofInt (-250)) then Q.zero
  else let s := fxSigmoid q; fxQ (fxMul s (fxOne + fxMul (fxOf q) (fxOne - s)))

/-- The side code of an FP32 value: 0xFF for NaN, else `clamp(q + 32, 0, 254)`. -/
def sideCode (gelu : Bool) (x : Nat) : Nat :=
  match f32 x with
  | .nan => 0xFF
  | .inf n => if n then 0x20 else 0xE0
  | v =>
    let d := if gelu then geluPrimeQ v.q else siluPrimeQ v.q
    let q := roundInt .rne (d.mul (Q.ofInt 192))
    (min (max (q + 32) 0) 254).toNat

/-- `d(c)` of R152; `none` for the NaN code. -/
def sideValue (c : Nat) : Option Q := if c = 0xFF then none else some ⟨(c : Int) - 32, 192⟩

end Sys2Proof.Machine
end

