-- ==== Sys2Proof/Machine/Mem.lean ====
section
/-! DEFINITION. The flat memory: HBM, reserved rows, pools and slices; bytes, uncorrectable units, counters. -/

namespace Sys2Proof.Machine

/-- Bytes of the linear HBM space (R233). -/
def hbmBytes : Nat := 549487378432

/-- Flat address of the device-reserved rows: 32 MiB for each stack (R235; DESIGN CHOICE, log 7). -/
def rsvBase : Nat := 2 ^ 40

/-- Flat address of the cluster pools: 1 MiB each, by global cluster number (R94). -/
def poolFlat : Nat := 2 ^ 41

/-- Flat address of the scratchpads: 8 slices of 6,144 bytes for each global core (R77, R78). -/
def sliceFlat : Nat := 2 ^ 42

def sliceBytes : Nat := 6144

/-- What an unlisted address reads as: zero, as every wipe leaves it (R261, R309). -/
def memEmpty : Byte := 0#8

/-- The byte stored at a flat address. -/
def memRd (m : List Host.Cell) (a : Nat) : Byte := smGet memEmpty m a

/-- The memory with one byte stored. -/
def memWr (m : List Host.Cell) (a : Nat) (b : Byte) : List Host.Cell := smSet memEmpty m a b

/-- The canonical form of the memory. -/
def Memory.wf (m : List Host.Cell) : Bool := smWf memEmpty m

/-- Bytes stored from `a` on. -/
def memWrs : List Host.Cell → Nat → List Byte → List Host.Cell
  | m, _, [] => m
  | m, a, b :: bs => memWrs (memWr m a b) (a + 1) bs

/-- Every byte of `[a, a + n)` at zero: the wipe of R261. -/
def memWipe (m : List Host.Cell) (a n : Nat) : List Host.Cell := smDrop (fun k => decide (a ≤ k) && decide (k < a + n)) m

/-- The start of the unit of error protection that holds `a`: 64 bytes in HBM, 8 bytes in SRAM (R249). -/
def ueUnit (a : Nat) : Nat := if a < poolFlat then a - a % 64 else a - a % 8

def ueSize (a : Nat) : Nat := if a < poolFlat then 64 else 8

/-- Does `a` lie in a stored unit that is uncorrectable? -/
def isUe (u : List (Nat × Bool)) (a : Nat) : Bool := smGet false u (ueUnit a)

/-- The 64-bit word that holds `a`. -/
def wordOf (a : Nat) : Nat := a - a % 8

/-- Does `a` lie in one of the words `u` that a read finds uncorrectable (`State.ueNow`)? -/
def badByte (u : List (Nat × Bool)) (a : Nat) : Bool := smGet false u (wordOf a)

/-- The byte a read delivers: zero in an uncorrectable word (R251). -/
def readByte (m : List Host.Cell) (u : List (Nat × Bool)) (a : Nat) : Byte :=
  if badByte u a then 0#8 else memRd m a

/-- `n` bytes from consecutive flat addresses. -/
def readBytes (m : List Host.Cell) (u : List (Nat × Bool)) (a n : Nat) : List Byte :=
  (List.range n).map fun i => readByte m u (a + i)

/-! ## Counters -/

/-- The key of an object's subindex. -/
def objKey (index sub : Nat) : Nat := index * 256 + sub

def ctrMax : Nat := 2 ^ 64 - 1

/-- A counter raised by `n`; it stays at `2^64 - 1` (R142 and its like). -/
def ctrAdd (c : List (Nat × Nat)) (key n : Nat) : List (Nat × Nat) :=
  if n = 0 then c else smSet 0 c key (min (smGet 0 c key + n) ctrMax)

end Sys2Proof.Machine
end

