-- ==== Sys2Proof/Machine/Operands.lean ====
section
/-! DEFINITION. Tensor descriptors, addressing, run-time extents, matrix views, sidecars and block scales
(R104-R115), on one core's slot. -/

namespace Sys2Proof.Machine

/-- What a command sees on one core: its context, its slot, its place in the core set, the bounds of the three
spaces (R79, R95, R236), the generator key (R153), the tables, the scalar registers, and the words that a read finds
uncorrectable. -/
structure View where
  ctx : Nat
  core : Nat
  slot : Nat
  pos : Nat
  poolBase : Nat
  poolSize : Nat
  partBase : Nat
  partSize : Nat
  seed : Nat
  step : Nat
  tensors : List (Nat × Nat)
  regs : List (Nat × Nat)
  ue : List (Nat × Bool)
  deriving DecidableEq, Repr

/-- What a command changes on a core as it runs: memory and counters. -/
structure Run where
  mem : List Host.Cell
  ctr : List (Nat × Nat)
  deriving DecidableEq, Repr

/-- Counter `sub` of `index` raised by `n` in a run. -/
def Run.bump (r : Run) (index sub n : Nat) : Run := { r with ctr := ctrAdd r.ctr (objKey index sub) n }

/-- Global cluster number of a core (R75). -/
def clusterOf (core : Nat) : Nat := core / 80

/-- Cluster group of a core, `d * 10 + g` (R75). -/
def groupOf (core : Nat) : Nat := core / 20000 * 10 + core % 20000 / 80 / 25

def dieOfCore (core : Nat) : Nat := core / 20000

def slotKey (core slot : Nat) : Nat := core * 8 + slot

/-- The flat address of offset `off` of a space: the reductions of R79, R95 and R109. -/
def flat (v : View) (space off : Nat) : Nat :=
  if space = 0 then sliceFlat + slotKey v.core v.slot * sliceBytes + off % sliceBytes
  else if space = 1 then poolFlat + clusterOf v.core * 2 ^ 20 + (v.poolBase + off % v.poolSize)
  else v.partBase + off % v.partSize

/-- Scalar register `n` of the slot; sr0 and sr1 are read-only (R104). -/
def scalarReg (v : View) (n : Nat) : Nat :=
  if n = 0 then v.pos else if n = 1 then v.core else smGet 0 v.regs (slotKey v.core v.slot * 32 + n)

def getByte (v : View) (r : Run) (space off : Nat) : Byte := readByte r.mem v.ue (flat v space off)

def putByte (v : View) (r : Run) (space off : Nat) (b : Byte) : Run :=
  { r with mem := memWr r.mem (flat v space off) b }

def getBytes (v : View) (r : Run) (space off n : Nat) : List Byte := (List.range n).map fun i => getByte v r space (off + i)

def putBytes (v : View) (r : Run) (space : Nat) : Nat → List Byte → Run
  | _, [] => r
  | off, b :: bs => putBytes v (putByte v r space off b) space (off + 1) bs

/-! ## Tensor descriptors (R106) -/

namespace Ten
def format (t : Nat) : Nat := fld t 3 0
def space (t : Nat) : Nat := fld t 5 4
def rank (t : Nat) : Nat := fld t 7 6
def addr (t : Nat) : Nat := fld t 47 8
def ext (t n : Nat) : Nat := fld t (79 + 32 * n) (48 + 32 * n)
/-- Dimension 0 has stride 1. -/
def str (t n : Nat) : Nat := if n = 0 then 1 else fld t (175 + 32 * n) (144 + 32 * n)
def boundSrc (t n : Nat) : Nat := fld t (273 + 2 * n) (272 + 2 * n)
def boundReg (t n : Nat) : Nat := fld t (284 + 5 * n) (280 + 5 * n)
def boundAddr (t : Nat) : Nat := fld t 339 300
def boundSpace (t : Nat) : Nat := fld t 341 340
def scAddr (t : Nat) : Nat := fld t 381 342
def scSpace (t : Nat) : Nat := fld t 383 382
def scValid (t : Nat) : Bool := bit t 384
def scaleAddr (t : Nat) : Nat := fld t 424 385
def scaleSpace (t : Nat) : Nat := fld t 426 425
def scaled (t : Nat) : Bool := bit t 427
def rowMask (t : Nat) : Nat := fld t 459 428
def colMask (t : Nat) : Nat := fld t 491 460
def baseReg (t : Nat) : Nat := fld t 496 492
def baseEn (t : Nat) : Bool := bit t 497
def fmt (t : Nat) : Option Fmt := Fmt.ofCode (format t)
/-- The element format; a reserved code never passes the dispatch checks (R136). -/
def fmtD (t : Nat) : Fmt := (fmt t).getD .code8
end Ten

/-- The reserved fields of a tensor descriptor are zero, and its coded fields hold no reserved value
(R10, R106-R108, R136). -/
def tensorOk (t : Nat) : Bool :=
  fld t 511 498 == 0 && (Ten.fmt t).isSome && Ten.space t != 3 && Ten.scSpace t != 3 && Ten.scaleSpace t != 3
    && Ten.boundSpace t != 3
    && (List.range 4).all (fun n =>
      if n ≤ Ten.rank t then Ten.boundSrc t n != 3
      else Ten.ext t n == 0 && Ten.str t n == 0 && Ten.boundSrc t n == 0 && Ten.boundReg t n == 0)
    && (Ten.format t != 0 || (Ten.scaled t && (List.range 4).all fun n => n == 0 || Ten.str t n % 2 == 0))

/-- A tensor as a command walks it: its descriptor, its run-time extents (four of them) and b of R109. -/
structure Tensor where
  d : Nat
  exts : List Nat
  base : Nat
  deriving DecidableEq, Repr

/-- b of R109. -/
def baseOf (v : View) (t : Nat) : Nat := if Ten.baseEn t then scalarReg v (Ten.baseReg t) else 0

/-- The run-time extent of dimension `n` (R108, R111). -/
def runExt (v : View) (r : Run) (t n : Nat) : Nat :=
  if Ten.rank t < n then 1
  else match Ten.boundSrc t n with
    | 0 => Ten.ext t n
    | 1 => scalarReg v (Ten.boundReg t n) % 2 ^ 32
    | _ => leNat (getBytes v r (Ten.boundSpace t) (Ten.boundAddr t + 4 * n) 4)

/-- Tensor `num` of the context's table with its extents read, once, at the command's start (R111). -/
def openTensor (v : View) (r : Run) (num : Nat) : Tensor :=
  let t := smGet 0 v.tensors num
  ⟨t, (List.range 4).map (runExt v r t), baseOf v t⟩

def Tensor.ext (t : Tensor) (n : Nat) : Nat := nth 1 t.exts n
def Tensor.fmt (t : Tensor) : Fmt := Ten.fmtD t.d

/-- Columns and rows of the matrix view (R110). -/
def Tensor.cols (t : Tensor) : Nat := t.ext 0
def Tensor.rows (t : Tensor) : Nat := ((List.range (Ten.rank t.d)).map fun n => t.ext (n + 1)).foldl (· * ·) 1

/-- The view has no rows or no columns, so that it addresses no element (R110). -/
def Tensor.empty (t : Tensor) : Bool := t.cols == 0 || t.rows == 0

/-- The indices of dimensions 1 to RANK for row `q`: every digit but the outermost is reduced (R110). -/
def rowDigits (t : Tensor) : Nat → Nat → Nat → List Nat
  | 0, _, _ => []
  | k + 1, n, q =>
    if n = Ten.rank t.d then [q] else (q % t.ext n) :: rowDigits t k (n + 1) (q / t.ext n)

def Tensor.idx (t : Tensor) (row col : Nat) : List Nat :=
  col :: (if Ten.rank t.d = 0 then [] else rowDigits t 3 1 row)

/-- The element offset of R109, in elements from ADDR + b. -/
def elemIndex (t : Nat) (ix : List Nat) : Nat :=
  (List.range 4).foldl (fun acc n => acc + nth 0 ix n * (if n ≤ Ten.rank t then Ten.str t n else 0)) 0

/-- The byte offset of an element in its space before reduction, and which half of the byte for FP4. -/
def elemOff (t : Tensor) (ix : List Nat) : Nat × Bool :=
  let e := elemIndex t.d ix
  let a := Ten.addr t.d + t.base
  if t.fmt = .fp4 then (a + e / 2, e % 2 = 1) else (a + t.fmt.bytes * e, false)

/-- The flat addresses an element occupies. -/
def elemAddrs (v : View) (t : Tensor) (ix : List Nat) : List Nat :=
  (List.range t.fmt.bytes).map fun i => flat v (Ten.space t.d) ((elemOff t ix).1 + i)

/-- The bits of an element (R51, R109). -/
def getEl (v : View) (r : Run) (t : Tensor) (ix : List Nat) : Nat :=
  let (off, hi) := elemOff t ix
  if t.fmt = .fp4 then
    let b := (getByte v r (Ten.space t.d) off).toNat
    if hi then b / 16 else b % 16
  else leNat (getBytes v r (Ten.space t.d) off t.fmt.bytes)

/-- An element written; an FP4 element changes only its own half byte (R51). -/
def putEl (v : View) (r : Run) (t : Tensor) (ix : List Nat) (bits : Nat) : Run :=
  let (off, hi) := elemOff t ix
  if t.fmt = .fp4 then
    let b := (memRd r.mem (flat v (Ten.space t.d) off)).toNat
    putByte v r (Ten.space t.d) off (BitVec.ofNat 8 (if hi then b % 16 + bits % 16 * 16 else b / 16 * 16 + bits % 16))
  else putBytes v r (Ten.space t.d) off (leBytes t.fmt.bytes bits)

/-- An element of the matrix view. -/
def getRC (v : View) (r : Run) (t : Tensor) (row col : Nat) : Nat :=
  if t.empty then Config.freeValue (row * 2 ^ 40 + col) t.fmt.bits else getEl v r t (t.idx row col)

/-- An element of operand A or B (R119): their extents along M, N and, for B, K are not read. A row index is split by the extents
of the dimensions between 0 and the outermost; where one of them is zero no element is addressed (R110). -/
def Tensor.unsplit (t : Tensor) : Bool := (List.range 4).any fun n => decide (1 ≤ n) && decide (n < Ten.rank t.d) && t.ext n == 0

def opRC (v : View) (r : Run) (t : Tensor) (row col : Nat) : Nat :=
  if t.unsplit then Config.freeValue (row * 2 ^ 40 + col) t.fmt.bits else getEl v r t (t.idx row col)

/-- An element of the matrix view stored; an empty view has none to store to (R110). -/
def putRC (v : View) (r : Run) (t : Tensor) (row col bits : Nat) : Run :=
  if t.empty then r else putEl v r t (t.idx row col) bits

/-- How far a walk of `rows` by `cols` of the view goes in each dimension (R139). -/
def walkDims (t : Tensor) (rows cols : Nat) : List Nat :=
  if rows = 0 || cols = 0 then [0, 0, 0, 0]
  else
    cols :: (List.range 3).map fun k =>
      let n := k + 1
      if Ten.rank t.d < n then 0
      else
        let inner := ((List.range k).map fun j => t.ext (j + 1)).foldl (· * ·) 1
        let w := cdiv rows inner
        if n = Ten.rank t.d then w else min (t.ext n) w

/-- Is a reference walked beyond its EXT in some dimension (R139)? -/
def overPlan (t : Tensor) (dims : List Nat) : Bool :=
  (List.range (Ten.rank t.d + 1)).any fun n => decide (Ten.ext t.d n < nth 0 dims n)

def countOver (r : Run) (refs : List (Tensor × List Nat)) : Run :=
  r.bump 0x8032 0x01 (refs.filter fun p => overPlan p.1 p.2).length

/-! ## Sidecars (R60, R113, R114) -/

/-- Byte `i` of a tensor's sidecar. -/
def sidecarByte (v : View) (r : Run) (t : Tensor) (i : Nat) : Nat :=
  (getByte v r (Ten.scSpace t.d) (Ten.scAddr t.d + t.base + i)).toNat

/-- The bytes of a sidecar, padded to a multiple of 64. -/
def sidecarBytes (rows cols : List Nat) : List Byte :=
  let bs := (rows ++ cols).map (BitVec.ofNat 8)
  bs ++ List.replicate (roundUp bs.length 64 - bs.length) 0#8

def putSidecar (v : View) (r : Run) (t : Tensor) (rows cols : List Nat) : Run :=
  putBytes v r (Ten.scSpace t.d) (Ten.scAddr t.d + t.base) (sidecarBytes rows cols)

/-- The largest exponent fields by row and by column of a list of `(row, column, BF16 bits)`. -/
def sidecarMax (nr nc : Nat) (els : List (Nat × Nat × Nat)) : List Nat × List Nat :=
  ((List.range nr).map fun i => listMax 0 ((els.filter fun e => e.1 == i).map fun e => bf16Exp e.2.2),
   (List.range nc).map fun j => listMax 0 ((els.filter fun e => e.2.1 == j).map fun e => bf16Exp e.2.2))

/-- The prepass of R62 over a whole `nr` by `nc` view. -/
def scoutPrepass (v : View) (r : Run) (t : Tensor) (nr nc : Nat) : Run :=
  let els := (List.range nr).flatMap fun i => (List.range nc).map fun j => (i, j, opRC v r t i j)
  let m := sidecarMax nr nc els
  (putSidecar v r t m.1 m.2).bump 0x8030 0x03 1

/-! ## Block scales (R52, R115) -/

/-- The scale byte at `i` of a tensor's scale array. -/
def scaleByteAt (v : View) (r : Run) (t : Tensor) (i : Nat) : Nat :=
  (getByte v r (Ten.scaleSpace t.d) (Ten.scaleAddr t.d + t.base + i)).toNat

/-! ## The generator (R153-R155) -/

def rotl32 (v : BitVec 32) (n : Nat) : BitVec 32 := v.rotateLeft n

/-- One round of R154. -/
def drawRound (s : BitVec 32 × BitVec 32 × BitVec 32 × BitVec 32) : BitVec 32 × BitVec 32 × BitVec 32 × BitVec 32 :=
  let (a, b, c, d) := s
  let a := a + b
  let d := rotl32 (d ^^^ a) 16
  let c := c + d
  let b := rotl32 (b ^^^ c) 12
  let a := a + b
  let d := rotl32 (d ^^^ a) 8
  let c := c + d
  let b := rotl32 (b ^^^ c) 7
  (a, b, c, d)

/-- The draw of R154; `seed` holds k0 in its low 32 bits. -/
def dxmDraw (seed purpose ctx step layer index : Nat) : Nat :=
  let k (i : Nat) : BitVec 32 := BitVec.ofNat 32 (seed / 2 ^ (32 * i))
  let c1 := (purpose % 4) * 2 ^ 30 + (ctx % 64) * 2 ^ 24 + (layer % 2 ^ 16) * 2 ^ 8 + (index / 2 ^ 32) % 256
  let s0 := (BitVec.ofNat 32 index ^^^ k 0, BitVec.ofNat 32 c1 ^^^ k 1, BitVec.ofNat 32 step ^^^ k 2, 0x9E3779B9#32 ^^^ k 3)
  let s := drawRound (drawRound (drawRound (drawRound s0)))
  (s.1 ^^^ s.2.2.1).toNat

/-- The rounding of an output element under a ROUND field (R66, R67): the purpose-1 draw of its index. -/
def rndOf (v : View) (round layer index : Nat) : Rnd :=
  if round = 1 then .stoch (dxmDraw v.seed 1 v.ctx v.step layer (index % 2 ^ 40)) else .rne

/-- The counts of R74 for one output written. -/
def countOut (r : Run) (k : OutKind) : Run :=
  match k with
  | .plain => r
  | .sat => r.bump 0x8030 0x04 1
  | .inf => r.bump 0x8030 0x05 1
  | .nan => r.bump 0x8030 0x06 1

end Sys2Proof.Machine
end

