-- ==== Sys2Proof/Machine/Dict.lean ====
section
/-! DEFINITION. The object dictionary (R392-R411): one row per object or run of objects, from the object tables of
the chapters. -/

namespace Sys2Proof.Machine

/-- The types of R393. -/
inductive Ty where
  | u8 | u16 | u32 | u64 | i8 | i16 | i32 | fp32
  | octet (n : Nat)
  deriving DecidableEq, Repr

/-- The access types of R10 (WO and W1C are used by no object). -/
inductive Access where
  | ro | rw | rws
  deriving DecidableEq, Repr

/-- One row: indices `ixLo`-`ixHi`, subindices `lo`-`hi`, MIN and MAX, the defaults by subindex (one value serves
every subindex), whether the chapter gives no default, and the enumerated values a write may carry (none: no such list). -/
structure Row where
  ixLo : Nat
  ixHi : Nat
  lo : Nat
  hi : Nat
  name : String
  ty : Ty
  acc : Access
  units : Nat
  min : Int
  max : Int
  dflt : List Nat
  noDefault : Bool
  vals : List Nat
  deriving DecidableEq, Repr

/-- The row builder that the parts below use. -/
def row (ixLo ixHi lo hi : Nat) (name : String) (ty : Ty) (acc : Access) (units : Nat) (mn mx : Int)
    (dflt : List Nat) (noDefault : Bool) (vals : List Nat) : Row :=
  { ixLo := ixLo, ixHi := ixHi, lo := lo, hi := hi, name := name, ty := ty, acc := acc, units := units,
    min := mn, max := mx, dflt := dflt, noDefault := noDefault, vals := vals }

/-- Objects of the dictionary, part 1 (the tables of the chapters, in the order of index). -/
def dictPart1 : List Row := [
  row 0x1000 0x1000 1 1 "VENDOR_NAME" (.octet 16) .ro 0 (0) (0) [32770323046822480] false [],
  row 0x1000 0x1000 2 2 "PRODUCT_NAME" (.octet 16) .ro 0 (0) (0) [13572595631609924] false [],
  row 0x1000 0x1000 3 3 "DEVICE_SERIAL" .u64 .ro 0 (0) (18446744073709551615) [0] true [],
  row 0x1000 0x1000 4 4 "IDENTITY_MAC" (.octet 6) .ro 0 (0) (0) [0] true [],
  row 0x1000 0x1000 5 5 "FIRMWARE_VERSION" .u32 .ro 0 (0) (4294967295) [0] true [],
  row 0x1000 0x1000 6 6 "DICTIONARY_VERSION" .u16 .ro 0 (0) (65535) [1] false [],
  row 0x1010 0x1010 1 15 "DIE_DESCRIPTOR" (.octet 64) .ro 0 (0) (0) [0] true [],
  row 0x1011 0x1011 1 15 "DIE_STATE" .u8 .ro 0 (0) (255) [0] false [],
  row 0x1020 0x1020 1 4 "CAPS_ENABLED" .u64 .ro 0 (0) (18446744073709551615) [0] false [],
  row 0x1021 0x1021 1 4 "CAPS_MANDATORY" .u64 .ro 0 (0) (18446744073709551615) [0] true [],
  row 0x1030 0x1030 1 1 "S1_HOLD_REASON" .u32 .ro 0 (0) (4294967295) [0] false [],
  row 0x1040 0x1047 1 1 "LINK_STATE" .u8 .ro 0 (0) (255) [0] true [],
  row 0x1040 0x1047 2 2 "FAILED_LANES_AB" (.octet 9) .ro 0 (0) (0) [0] true [],
  row 0x1040 0x1047 3 3 "FAILED_LANES_BA" (.octet 9) .ro 0 (0) (0) [0] true [],
  row 0x1040 0x1047 4 4 "PROTO_VERSION" .u8 .ro 0 (0) (255) [0] true [],
  row 0x1040 0x1047 5 5 "RETRAIN_COUNT" .u32 .ro 0 (0) (4294967295) [0] false [],
  row 0x1040 0x1047 6 6 "RETRAIN_REQUEST" .u8 .rws 0 (0) (255) [0] false [1],
  row 0x1049 0x1052 1 1 "LINK_STATE" .u8 .ro 0 (0) (255) [0] true [],
  row 0x1049 0x1052 2 2 "FAILED_LANES_AB" (.octet 9) .ro 0 (0) (0) [0] true [],
  row 0x1049 0x1052 3 3 "FAILED_LANES_BA" (.octet 9) .ro 0 (0) (0) [0] true [],
  row 0x1049 0x1052 4 4 "PROTO_VERSION" .u8 .ro 0 (0) (255) [0] true [],
  row 0x1049 0x1052 5 5 "RETRAIN_COUNT" .u32 .ro 0 (0) (4294967295) [0] false [],
  row 0x1049 0x1052 6 6 "RETRAIN_REQUEST" .u8 .rws 0 (0) (255) [0] false [1],
  row 0x1060 0x1060 1 1 "OPEN_SITE_LINK" .u8 .ro 0 (0) (255) [0] false [],
  row 0x1060 0x1060 2 2 "OPEN_SITE_RATE" .u8 .ro 15 (0) (255) [0] false [],
  row 0x1061 0x1061 1 64 "OPEN_SITE_BIND" .u32 .rws 0 (0) (4294967295) [0] false [],
  row 0x1070 0x1077 1 1 "PATTERN_RESULT" (.octet 20) .ro 0 (0) (0) [0] false [],
  row 0x1079 0x1082 1 1 "PATTERN_RESULT" (.octet 20) .ro 0 (0) (0) [0] false [],
  row 0x1100 0x1100 1 1 "LIFECYCLE" .u8 .ro 0 (0) (255) [0] true [],
  row 0x1100 0x1100 2 2 "LC_REQUEST" .u8 .rws 0 (0) (255) [0] false [],
  row 0x1100 0x1100 3 3 "LC_TOKEN" (.octet 3360) .rws 0 (0) (0) [0] false [],
  row 0x1100 0x1100 4 4 "LC_CHALLENGE" (.octet 32) .ro 0 (0) (0) [0] true [],
  row 0x1100 0x1100 5 5 "LC_RESULT" .u8 .ro 0 (0) (255) [0] false [],
  row 0x1101 0x1101 1 1 "IDENTITY_PUBLIC_KEY" (.octet 1952) .ro 0 (0) (0) [0] false [],
  row 0x1101 0x1101 2 2 "IDENTITY_ENDORSEMENT" (.octet 3309) .rws 0 (0) (0) [0] false [],
  row 0x1102 0x1102 1 1 "BOOT_RESULT" .u8 .ro 0 (0) (255) [0] true [],
  row 0x1102 0x1102 2 2 "FW_MEASUREMENT" (.octet 64) .ro 0 (0) (0) [0] true [],
  row 0x1102 0x1102 3 3 "SVN_FLOOR" .u8 .ro 0 (0) (255) [0] true [],
  row 0x1102 0x1102 4 4 "SVN_COMMIT" .u8 .rws 0 (0) (255) [0] false [],
  row 0x1110 0x1110 1 1 "IMAGE_CONTROL" .u8 .rws 0 (0) (255) [0] false [1, 2, 3]]

/-- Objects of the dictionary, part 2 (the tables of the chapters, in the order of index). -/
def dictPart2 : List Row := [
  row 0x1110 0x1110 2 2 "IMAGE_OFFSET" .u32 .rws 6 (0) (4294967295) [0] false [],
  row 0x1110 0x1110 3 3 "IMAGE_WINDOW" (.octet 4096) .rws 0 (0) (0) [0] true [],
  row 0x1110 0x1110 4 4 "IMAGE_CHECK" .u8 .ro 0 (0) (255) [0] false [],
  row 0x1120 0x1120 1 2 "ATTEST_NONCE" (.octet 32) .rw 0 (0) (0) [0] false [],
  row 0x1121 0x1121 1 2 "ATTEST_REPORT" (.octet 3616) .ro 0 (0) (0) [0] false [],
  row 0x1122 0x1122 1 2 "ATTEST_STATUS" .u8 .ro 0 (0) (255) [0] false [],
  row 0x2000 0x2000 1 1 "STAGE" .u8 .ro 0 (0) (255) [0] false [],
  row 0x2000 0x2000 2 2 "STAGE_TIME" .u32 .ro 3 (0) (4294967295) [0] false [],
  row 0x2001 0x2001 1 1 "SUPPLY_SOURCE" .u8 .ro 0 (0) (255) [0] false [],
  row 0x2001 0x2001 2 2 "RAIL_STATUS" .u16 .ro 0 (0) (65535) [0] false [],
  row 0x2001 0x2001 3 3 "RETENTION_RESULT" .u8 .ro 0 (0) (255) [0] false [],
  row 0x2002 0x2002 1 1 "POWER_STATE" .u8 .ro 0 (0) (255) [0] false [],
  row 0x2002 0x2002 2 2 "DEEP_IDLE_REQUEST" .u8 .rws 0 (0) (255) [0] false [0, 1],
  row 0x2003 0x2003 1 1 "START_HOLD" .u8 .rws 0 (0) (255) [0] false [0, 1],
  row 0x2004 0x2004 1 1 "S1_STEP" .u8 .ro 0 (0) (255) [0] false [],
  row 0x2005 0x2005 1 1 "PACKAGE_POWER" .u32 .ro 14 (0) (4294967295) [0] false [],
  row 0x2005 0x2005 2 2 "POWER_LIMIT" .u32 .rws 14 (200000) (1650000) [1650000] false [],
  row 0x2100 0x2100 1 1 "PAVANE_DEVIATION" .i32 .ro 0 (-2147483648) (2147483647) [0] false [],
  row 0x2100 0x2100 2 2 "REF_CLOCK_STATE" .u8 .ro 0 (0) (255) [0] false [],
  row 0x2101 0x2101 1 1 "GROUP_IDLE_DELAY" .u32 .rws 2 (1) (100000) [20] false [],
  row 0x2101 0x2101 2 2 "DIE_IDLE_DELAY" .u32 .rws 2 (100) (10000000) [10000] false [],
  row 0x2101 0x2101 3 3 "KEEP_WARM" .u8 .rws 0 (0) (255) [0] false [],
  row 0x2110 0x2110 1 40 "GROUP_CLOCK" .u8 .ro 0 (0) (255) [0] false [],
  row 0x2111 0x2111 1 7 "DIE_PLL" .u8 .ro 0 (0) (255) [0] false [],
  row 0x2200 0x2200 1 7 "DIE_TEMP" .i8 .ro 0 (-128) (127) [0] true [],
  row 0x2201 0x2201 1 1 "TEMP_ALERT" .u8 .rws 5 (70) (100) [95] false [],
  row 0x2201 0x2201 2 2 "TEMP_THROTTLE" .u8 .rws 5 (80) (104) [100] false [],
  row 0x2201 0x2201 3 3 "HBM_TRIP" .u8 .ro 5 (0) (255) [105] false [],
  row 0x2203 0x2203 1 7 "OE_STATUS" .u8 .ro 0 (0) (255) [0] false [],
  row 0x3001 0x3001 1 1 "PORT_MODE" .u8 .ro 0 (0) (255) [0] false [],
  row 0x3001 0x3001 2 2 "PORT_FALLBACK" .u8 .ro 0 (0) (255) [0] false [],
  row 0x3001 0x3001 3 3 "PORT_RETRAIN" .u8 .rws 0 (0) (255) [0] false [1],
  row 0x3002 0x3002 1 1 "MAC_ADDRESS" (.octet 6) .ro 0 (0) (0) [0] true [],
  row 0x3002 0x3002 2 2 "IPV6_ADDRESS" (.octet 16) .rws 0 (0) (0) [0] false [],
  row 0x3003 0x3003 1 1 "VLAN_ID" .u16 .rws 0 (0) (4094) [0] false [],
  row 0x3003 0x3003 2 2 "DSCP" .u8 .rws 0 (0) (63) [0] false [],
  row 0x3003 0x3003 3 3 "RAORN_PORT" .u16 .rws 0 (1024) (65535) [49488] false [],
  row 0x3004 0x3004 1 4 "PCP_MAP" .u8 .rws 0 (0) (7) [6, 4, 2, 0] false [],
  row 0x3005 0x3005 1 1 "PFC_ENABLE" .u8 .rws 0 (0) (255) [84] false [],
  row 0x3005 0x3005 2 2 "PFC_XOFF_KIB" .u32 .rws 7 (1024) (49152) [8192] false []]

/-- Objects of the dictionary, part 3 (the tables of the chapters, in the order of index). -/
def dictPart3 : List Row := [
  row 0x3005 0x3005 3 3 "PFC_XON_KIB" .u32 .rws 7 (0) (65536) [16384] false [],
  row 0x3010 0x3010 1 1 "CC_DELAY_TARGET" .u32 .rws 1 (1000) (1000000) [10000] false [],
  row 0x3010 0x3010 2 2 "CC_DECREASE" .u16 .rws 10 (500) (950) [700] false [],
  row 0x3010 0x3010 3 3 "CC_INIT_WINDOW" .u16 .rws 11 (1) (1024) [16] false [],
  row 0x3010 0x3010 4 4 "RTO_MIN" .u32 .rws 2 (10) (1000) [20] false [],
  row 0x3010 0x3010 5 5 "RTO_MAX" .u32 .rws 2 (0) (1000000) [10000] false [],
  row 0x3010 0x3010 6 6 "MAX_SENDS" .u8 .rws 0 (2) (64) [12] false [],
  row 0x3011 0x3011 1 1 "STREAMS_OPEN" .u16 .ro 0 (0) (65535) [0] false [],
  row 0x3021 0x3021 1 1 "SEAT_IDLE_LIMIT" .u32 .rws 3 (0) (3600000) [10000] false [],
  row 0x3022 0x3022 1 2 "SEAT_ALT" .u8 .ro 0 (0) (255) [0] false [],
  row 0x3080 0x30ff 1 128 "STREAM_STATE" .u64 .ro 0 (0) (18446744073709551615) [0] false [],
  row 0x3100 0x3100 1 6 "PORT_STATE" .u32 .ro 0 (0) (4294967295) [0] false [],
  row 0x3101 0x3101 1 6 "PORT_ROLE" .u8 .rws 0 (0) (255) [0] false [0, 1, 2, 3, 4, 5, 6, 7, 8, 9],
  row 0x3102 0x3102 1 1 "TOPOLOGY" .u32 .rws 0 (0) (4294967295) [0] false [],
  row 0x3102 0x3102 2 2 "NEXT_COLL_ID" .u32 .ro 0 (0) (4294967295) [0] false [],
  row 0x3110 0x3110 1 1 "PAIR_CONTROL" .u8 .rws 0 (0) (255) [0] false [0, 1, 2, 3],
  row 0x3111 0x3111 1 1 "PAIR_STATE" .u16 .ro 0 (0) (65535) [0] false [],
  row 0x3112 0x3112 1 1 "PARTNER_SERIAL" .u64 .ro 0 (0) (18446744073709551615) [0] false [],
  row 0x3112 0x3112 2 2 "MEMBER" .u8 .ro 0 (0) (255) [0] false [],
  row 0x4000 0x4000 1 64 "CTX_STATE" .u32 .ro 0 (0) (4294967295) [0] false [],
  row 0x4001 0x4001 1 255 "MODEL_RECORD" (.octet 64) .rws 0 (0) (0) [0] false [],
  row 0x4002 0x4002 1 255 "MODEL_CONTROL" .u8 .rws 0 (0) (255) [0] false [1, 2],
  row 0x4003 0x4003 1 255 "MODEL_STATUS" .u32 .ro 0 (0) (4294967295) [255] false [],
  row 0x4020 0x4020 1 64 "FROZEN_LAYERS" (.octet 8192) .rws 0 (0) (0) [0] false [],
  row 0x4040 0x4040 1 4 "ADMIT_LIMIT" .u32 .rws 2 (1000) (600000000) [20000, 200000, 2000000, 60000000] false [],
  row 0x4041 0x4041 1 4 "TIMEOUT_DEFAULT" .u32 .rws 2 (100) (600000000) [50000, 500000, 2000000, 10000000] false [],
  row 0x4042 0x4042 1 1 "MERGE_WINDOW" .u32 .rws 1 (0) (20000) [3000] false [],
  row 0x4110 0x4110 1 128 "INTAKE_CONFIG" (.octet 64) .rws 0 (0) (0) [0] false [],
  row 0x4111 0x4111 1 128 "INTAKE_NORM" (.octet 64) .rws 0 (0) (0) [0] false [],
  row 0x4112 0x4112 1 128 "INTAKE_STATE" .u16 .ro 0 (0) (65535) [0] false [],
  row 0x4113 0x4113 1 128 "INTAKE_CURSOR" (.octet 16) .ro 6 (0) (0) [0] false [],
  row 0x4114 0x4114 1 4 "DICT_STATE" .u32 .ro 0 (0) (4294967295) [0] false [],
  row 0x4115 0x4115 1 1 "VIDEO_STREAMS_IN_USE" .u8 .ro 0 (0) (255) [0] false [],
  row 0x4200 0x4200 1 4 "TABLE_SLOT_STATE" .u32 .ro 0 (0) (4294967295) [0] false [],
  row 0x4201 0x4201 1 4 "TABLE_SLOT_CRC" .u32 .ro 0 (0) (4294967295) [0] false [],
  row 0x4202 0x4202 1 1 "TABLE_LOADS_WAITING" .u8 .ro 0 (0) (255) [0] false [],
  row 0x4203 0x4203 1 1 "LAST_STREAM_FAULT" (.octet 8) .ro 0 (0) (0) [0] false [],
  row 0x4310 0x431f 1 1 "RATE" .fp32 .rws 0 (4286578688) (2139095040) [981668463] false [],
  row 0x4310 0x431f 2 2 "MOMENTUM" .fp32 .rws 0 (4286578688) (2139095040) [1064346583] false [],
  row 0x4310 0x431f 3 3 "BETA2" .fp32 .rws 0 (4286578688) (2139095040) [1065269330] false []]

/-- Objects of the dictionary, part 4 (the tables of the chapters, in the order of index). -/
def dictPart4 : List Row := [
  row 0x4310 0x431f 4 4 "EPS" .fp32 .rws 0 (4286578688) (2139095040) [864026624] false [],
  row 0x4310 0x431f 5 5 "DECAY" .fp32 .rws 0 (4286578688) (2139095040) [0] false [],
  row 0x4310 0x431f 6 6 "GRAD_SCALE" .fp32 .rws 0 (4286578688) (2139095040) [1065353216] false [],
  row 0x4310 0x431f 7 7 "NS_ITERS" .u8 .rws 0 (0) (15) [5] false [],
  row 0x4310 0x431f 8 8 "NS_A" .fp32 .rws 0 (4286578688) (2139095040) [1077936128] false [],
  row 0x4310 0x431f 9 9 "NS_B" .fp32 .rws 0 (4286578688) (2139095040) [3226258637] false [],
  row 0x4310 0x431f 10 10 "NS_C" .fp32 .rws 0 (4286578688) (2139095040) [1067030938] false [],
  row 0x4310 0x431f 11 11 "NS_EPS" .fp32 .rws 0 (4286578688) (2139095040) [813694976] false [],
  row 0x4310 0x431f 12 12 "FLAGS" .u8 .rws 0 (0) (255) [6] false [],
  row 0x4320 0x4320 1 64 "GEN_SEED" (.octet 16) .rws 0 (0) (0) [0] false [],
  row 0x4321 0x4321 1 64 "CTX_STEP" .u32 .rws 0 (0) (4294967295) [0] false [],
  row 0x4330 0x4330 1 2 "PLANER_STATE" .u32 .ro 0 (0) (4294967295) [0] false [],
  row 0x4331 0x4331 1 1 "LAST_ARBITRATION" (.octet 32) .ro 0 (0) (0) [0] false [],
  row 0x4332 0x4332 1 64 "DRIFTED_SLABS" .u32 .rws 0 (0) (4294967295) [0] false [],
  row 0x4334 0x4334 1 1 "AGREEMENT" .u8 .ro 0 (0) (255) [0] false [],
  row 0x5000 0x5000 1 1 "HBM_LINEAR_BYTES" .u64 .ro 6 (0) (18446744073709551615) [549487378432] false [],
  row 0x5001 0x5001 1 8 "STACK_STATE" .u32 .ro 0 (0) (4294967295) [0] false [],
  row 0x5003 0x5003 1 8 "HBM_TEMP" .i8 .ro 5 (-128) (127) [0] true [],
  row 0x5004 0x5004 1 8 "HBM_THROTTLE_STEP" .u8 .ro 0 (0) (255) [0] false [],
  row 0x5005 0x5005 1 1 "THROTTLE_BASE" .u8 .rws 5 (70) (100) [90] false [],
  row 0x5005 0x5005 2 2 "THROTTLE_SPACING" .u8 .rws 5 (1) (10) [3] false [],
  row 0x5005 0x5005 3 3 "THROTTLE_HYST" .u8 .rws 5 (1) (10) [3] false [],
  row 0x5006 0x5006 1 1 "LAST_UNCORRECTABLE" (.octet 16) .ro 0 (0) (0) [18374686479671623680] false [],
  row 0x5010 0x5010 1 64 "PARTITION" (.octet 16) .ro 0 (0) (0) [0] false [],
  row 0x5011 0x5011 1 64 "CACHE_SHARE" .u32 .ro 0 (0) (4294967295) [0] false [],
  row 0x5020 0x5020 1 128 "TGEN_CONFIG" (.octet 32) .rws 0 (0) (0) [0] false [],
  row 0x5021 0x5021 1 128 "TGEN_CONTROL" .u8 .rws 0 (0) (255) [0] false [1, 2],
  row 0x5022 0x5022 1 128 "TGEN_RESULT" (.octet 32) .ro 0 (0) (0) [0] false [],
  row 0x5030 0x5030 1 1 "WIPE_STATUS" .u8 .ro 0 (0) (255) [0] false [],
  row 0x5100 0x5100 1 9 "BG_CONTROL" .u8 .rws 0 (0) (255) [0] false [0, 1],
  row 0x5101 0x5101 1 9 "BG_STATE" .u32 .ro 0 (0) (4294967295) [0] false [],
  row 0x5102 0x5102 1 1 "SCRUB_PERIOD" .u32 .rws 4 (17) (86400) [600] false [],
  row 0x5102 0x5102 2 2 "SRAM_SCRUB_PERIOD" .u32 .rws 4 (5) (3600) [10] false [],
  row 0x5102 0x5102 3 3 "DIGEST_PERIOD" .u32 .rws 4 (10) (86400) [300] false [],
  row 0x5110 0x5110 1 64 "TELEMETRY_ITEM" .u32 .rws 0 (0) (4294967295) [0] false [],
  row 0x5111 0x5111 1 1 "TELEMETRY_PERIOD" .u32 .rws 2 (1000) (1000000) [1000] false [],
  row 0x6000 0x6000 1 1 "RESET_REQUEST" .u16 .rws 0 (0) (65535) [0] false [],
  row 0x6001 0x6001 1 1 "LAST_RESET" (.octet 16) .ro 6 (0) (0) [0] false [],
  row 0x6001 0x6001 2 2 "BOOT_COUNT" .u32 .ro 0 (0) (4294967295) [0] false [],
  row 0x6002 0x6002 1 1 "DEGRADED" .u16 .ro 0 (0) (65535) [0] false []]

/-- Objects of the dictionary, part 5 (the tables of the chapters, in the order of index). -/
def dictPart5 : List Row := [
  row 0x6003 0x6003 1 64 "SUSPECT_STATE" .u32 .ro 0 (0) (4294967295) [0] false [],
  row 0x6004 0x6004 1 1 "REPLAY_TIMEOUT" .u32 .rws 2 (1000) (600000000) [2000000] false [],
  row 0x6005 0x6005 1 64 "CTX_HOLD" .u8 .rws 0 (0) (255) [0] false [0, 1],
  row 0x6006 0x6006 1 1 "REJOIN_LIMIT" .u8 .rws 0 (1) (15) [3] false [],
  row 0x6030 0x6030 1 1 "LOG_NEWEST_SEQ" .u32 .ro 0 (0) (4294967295) [0] false [],
  row 0x6030 0x6030 2 2 "LOG_OLDEST_SEQ" .u32 .ro 0 (0) (4294967295) [0] false [],
  row 0x6031 0x6031 1 2 "LOG_CURSOR" .u32 .rw 0 (0) (4294967295) [0] false [],
  row 0x6032 0x6032 1 64 "LOG_WINDOW" (.octet 64) .ro 0 (0) (0) [0] false [],
  row 0x6040 0x6040 1 1 "DUMP_COUNT" .u32 .ro 0 (0) (4294967295) [0] false [],
  row 0x6040 0x6040 2 2 "DUMP_LOCK" .u8 .rws 0 (0) (255) [0] false [],
  row 0x6041 0x6041 1 4 "DUMP_DIRECTORY" (.octet 16) .ro 0 (0) (0) [0] false [],
  row 0x6042 0x6042 1 2 "DUMP_SELECT" .u8 .rw 0 (0) (3) [0] false [],
  row 0x6042 0x6042 3 4 "DUMP_OFFSET" .u32 .rw 0 (0) (2093056) [0] false [],
  row 0x6043 0x6043 1 1 "DUMP_WINDOW" (.octet 4096) .ro 0 (0) (0) [0] false [],
  row 0x6050 0x6050 1 15 "INCARNATION" .u8 .ro 0 (0) (255) [0] true [],
  row 0x7000 0x70ff 1 1 "SEM_HOLDER" .u8 .rw 0 (0) (255) [0] false [0, 1],
  row 0x7000 0x70ff 2 2 "SEM_ALT" .u8 .ro 0 (0) (255) [0] false [],
  row 0x8010 0x8010 1 18 "TENON_RETRY_COUNT" .u64 .ro 0 (0) (18446744073709551615) [0] false [],
  row 0x8020 0x8020 1 1 "OPEN_SITE_CREDIT_OVERRUN" .u64 .ro 0 (0) (18446744073709551615) [0] false [],
  row 0x8020 0x8020 2 2 "OPEN_SITE_HEADER_INVALID" .u64 .ro 0 (0) (18446744073709551615) [0] false [],
  row 0x8020 0x8020 3 3 "OPEN_SITE_SEQ_GAP" .u64 .ro 0 (0) (18446744073709551615) [0] false [],
  row 0x8030 0x8030 1 1 "TRUNCATED_OUTPUTS" .u64 .ro 0 (0) (18446744073709551615) [0] false [],
  row 0x8030 0x8030 2 2 "SIDECAR_UNDERSTATED" .u64 .ro 0 (0) (18446744073709551615) [0] false [],
  row 0x8030 0x8030 3 3 "SCOUT_PREPASSES" .u64 .ro 0 (0) (18446744073709551615) [0] false [],
  row 0x8030 0x8030 4 4 "OUTPUT_SATURATED" .u64 .ro 0 (0) (18446744073709551615) [0] false [],
  row 0x8030 0x8030 5 5 "OUTPUT_OVERFLOW_INF" .u64 .ro 0 (0) (18446744073709551615) [0] false [],
  row 0x8030 0x8030 6 6 "OUTPUT_NAN" .u64 .ro 0 (0) (18446744073709551615) [0] false [],
  row 0x8031 0x8031 1 1 "ZERO_GATED_PRODUCTS" .u64 .ro 0 (0) (18446744073709551615) [0] false [],
  row 0x8031 0x8031 2 2 "MATRIX_CONTESTED_GRANTS" .u64 .ro 0 (0) (18446744073709551615) [0] false [],
  row 0x8031 0x8031 3 3 "VECTOR_CONTESTED_GRANTS" .u64 .ro 0 (0) (18446744073709551615) [0] false [],
  row 0x8031 0x8031 4 4 "ACC_BANK_WAIT_CYCLES" .u64 .ro 0 (0) (18446744073709551615) [0] false [],
  row 0x8031 0x8031 5 5 "SCRATCH_PORT_CONFLICTS" .u64 .ro 0 (0) (18446744073709551615) [0] false [],
  row 0x8031 0x8031 6 6 "POOL_BANK_CONFLICTS" .u64 .ro 0 (0) (18446744073709551615) [0] false [],
  row 0x8031 0x8031 7 7 "BARRIERS_COMPLETED" .u64 .ro 0 (0) (18446744073709551615) [0] false [],
  row 0x8031 0x8031 8 8 "BARRIER_FAULTS" .u64 .ro 0 (0) (18446744073709551615) [0] false [],
  row 0x8031 0x8031 9 9 "REDUCTIONS_COMPLETED" .u64 .ro 0 (0) (18446744073709551615) [0] false [],
  row 0x8031 0x8031 10 10 "SLOT_SWITCH_FILLS" .u64 .ro 0 (0) (18446744073709551615) [0] false [],
  row 0x8032 0x8032 1 1 "EXTENT_OVER_PLAN" .u64 .ro 0 (0) (18446744073709551615) [0] false [],
  row 0x8032 0x8032 2 2 "ZERO_EXTENT_COMMANDS" .u64 .ro 0 (0) (18446744073709551615) [0] false [],
  row 0x8032 0x8032 3 3 "DESCRIPTOR_INVALID_CORES" .u64 .ro 0 (0) (18446744073709551615) [0] false []]

/-- Objects of the dictionary, part 6 (the tables of the chapters, in the order of index). -/
def dictPart6 : List Row := [
  row 0x8032 0x8032 4 4 "EMPTY_POOL_WINDOWS" .u64 .ro 0 (0) (18446744073709551615) [0] false [],
  row 0x8032 0x8032 5 5 "INT_CONVERT_NAN" .u64 .ro 0 (0) (18446744073709551615) [0] false [],
  row 0x8032 0x8032 6 6 "DESCRIPTOR_INVALID_DISPATCH" .u64 .ro 0 (0) (18446744073709551615) [0] false [],
  row 0x8033 0x8033 1 1 "WGRAD_SKIPPED" .u64 .ro 0 (0) (18446744073709551615) [0] false [],
  row 0x8033 0x8033 2 2 "DROPOUT_DRAWS" .u64 .ro 0 (0) (18446744073709551615) [0] false [],
  row 0x8033 0x8033 3 3 "DROPOUT_DROPPED" .u64 .ro 0 (0) (18446744073709551615) [0] false [],
  row 0x8033 0x8033 4 4 "MASKED_ELEMENTS" .u64 .ro 0 (0) (18446744073709551615) [0] false [],
  row 0x8033 0x8033 5 5 "SIDE_CODE_NAN" .u64 .ro 0 (0) (18446744073709551615) [0] false [],
  row 0x8034 0x8034 1 1 "SLABS_COMMITTED" .u64 .ro 0 (0) (18446744073709551615) [0] false [],
  row 0x8034 0x8034 2 2 "AGREE_STALL_NS" .u64 .ro 1 (0) (18446744073709551615) [0] false [],
  row 0x8034 0x8034 3 3 "SLABS_ARBITRATED" .u64 .ro 0 (0) (18446744073709551615) [0] false [],
  row 0x8034 0x8034 4 4 "NAMED_FAULTY" .u64 .ro 0 (0) (18446744073709551615) [0] false [],
  row 0x8034 0x8034 5 5 "ARB_UNDECIDED" .u64 .ro 0 (0) (18446744073709551615) [0] false [],
  row 0x8034 0x8034 6 6 "DRIFT_DETECTED" .u64 .ro 0 (0) (18446744073709551615) [0] false [],
  row 0x8034 0x8034 7 7 "DRIFT_REPAIRED_SLABS" .u64 .ro 0 (0) (18446744073709551615) [0] false [],
  row 0x8034 0x8034 8 8 "NONFINITE_BLOCKS" .u64 .ro 0 (0) (18446744073709551615) [0] false [],
  row 0x8034 0x8034 9 9 "NONFINITE_JOBS_SKIPPED" .u64 .ro 0 (0) (18446744073709551615) [0] false [],
  row 0x8034 0x8034 10 10 "BORROWED_PASSES" .u64 .ro 0 (0) (18446744073709551615) [0] false [],
  row 0x8034 0x8034 11 11 "JOBS_RESUMED" .u64 .ro 0 (0) (18446744073709551615) [0] false [],
  row 0x8034 0x8034 12 12 "PAIR_CONFIG_MISMATCH" .u64 .ro 0 (0) (18446744073709551615) [0] false [],
  row 0x8034 0x8034 13 13 "PLANER_JOBS_FROZEN" .u64 .ro 0 (0) (18446744073709551615) [0] false [],
  row 0x8035 0x8035 1 1 "SQUEEZE_BLOCKS_RAW" .u64 .ro 0 (0) (18446744073709551615) [0] false [],
  row 0x8035 0x8035 2 2 "SQUEEZE_BLOCKS_CODED" .u64 .ro 0 (0) (18446744073709551615) [0] false [],
  row 0x8035 0x8035 3 3 "SQUEEZE_BYTES_IN" .u64 .ro 0 (0) (18446744073709551615) [0] false [],
  row 0x8035 0x8035 4 4 "SQUEEZE_BYTES_OUT" .u64 .ro 0 (0) (18446744073709551615) [0] false [],
  row 0x8035 0x8035 5 5 "EXPAND_BYTES_OUT" .u64 .ro 0 (0) (18446744073709551615) [0] false [],
  row 0x8035 0x8035 6 6 "EXPANDER_STALL_CYCLES" .u64 .ro 0 (0) (18446744073709551615) [0] false [],
  row 0x8035 0x8035 7 7 "EXPANDER_STALL_COMMANDS" .u64 .ro 0 (0) (18446744073709551615) [0] false [],
  row 0x8035 0x8035 8 8 "TABLE_WAIT_EVENTS" .u64 .ro 0 (0) (18446744073709551615) [0] false [],
  row 0x8035 0x8035 9 9 "STREAM_FAULTS" .u64 .ro 0 (0) (18446744073709551615) [0] false [],
  row 0x8035 0x8035 10 10 "STREAM_LENGTH_MISMATCH" .u64 .ro 0 (0) (18446744073709551615) [0] false [],
  row 0x8035 0x8035 11 11 "ABSENT_SYMBOL_RAW" .u64 .ro 0 (0) (18446744073709551615) [0] false [],
  row 0x8035 0x8035 12 12 "TABLE_SLOT_CONTESTS" .u64 .ro 0 (0) (18446744073709551615) [0] false [],
  row 0x8035 0x8035 13 13 "ENGINE_WAITS" .u64 .ro 0 (0) (18446744073709551615) [0] false [],
  row 0x8035 0x8035 14 14 "OTHER_EXPAND_WAIT_CYCLES" .u64 .ro 0 (0) (18446744073709551615) [0] false [],
  row 0x8036 0x8036 1 1 "HBM_CE_CORRECTED" .u64 .ro 0 (0) (18446744073709551615) [0] false [],
  row 0x8036 0x8036 2 2 "HBM_UE" .u64 .ro 0 (0) (18446744073709551615) [0] false [],
  row 0x8036 0x8036 3 3 "SRAM_CE_CORRECTED" .u64 .ro 0 (0) (18446744073709551615) [0] false [],
  row 0x8036 0x8036 4 4 "SRAM_UE" .u64 .ro 0 (0) (18446744073709551615) [0] false [],
  row 0x8036 0x8036 5 5 "LOST_LINES" .u64 .ro 0 (0) (18446744073709551615) [0] false []]

/-- Objects of the dictionary, part 7 (the tables of the chapters, in the order of index). -/
def dictPart7 : List Row := [
  row 0x8036 0x8036 6 6 "CACHE_HITS" .u64 .ro 0 (0) (18446744073709551615) [0] false [],
  row 0x8036 0x8036 7 7 "CACHE_MISSES" .u64 .ro 0 (0) (18446744073709551615) [0] false [],
  row 0x8036 0x8036 8 8 "PREFETCH_LINES_ISSUED" .u64 .ro 0 (0) (18446744073709551615) [0] false [],
  row 0x8036 0x8036 9 9 "PREFETCH_LINES_USED" .u64 .ro 0 (0) (18446744073709551615) [0] false [],
  row 0x8036 0x8036 10 10 "BANK_CONFLICTS" .u64 .ro 0 (0) (18446744073709551615) [0] false [],
  row 0x8036 0x8036 11 11 "RW_TURNAROUNDS" .u64 .ro 0 (0) (18446744073709551615) [0] false [],
  row 0x8036 0x8036 12 12 "THROTTLE_STEP_CHANGES" .u64 .ro 0 (0) (18446744073709551615) [0] false [],
  row 0x8036 0x8036 13 13 "THROTTLE_DELAY_NS" .u64 .ro 1 (0) (18446744073709551615) [0] false [],
  row 0x8036 0x8036 14 14 "WIPE_LINES_RETRIED" .u64 .ro 0 (0) (18446744073709551615) [0] false [],
  row 0x8036 0x8036 15 15 "PPR_ROWS_APPLIED" .u64 .ro 0 (0) (18446744073709551615) [0] false [],
  row 0x8036 0x8036 16 16 "TRACKER_CONTESTS" .u64 .ro 0 (0) (18446744073709551615) [0] false [],
  row 0x8036 0x8036 17 17 "PIN_OVERFLOW_LINES" .u64 .ro 0 (0) (18446744073709551615) [0] false [],
  row 0x8036 0x8036 18 18 "TRACKER_DENIED" .u64 .ro 0 (0) (18446744073709551615) [0] false [],
  row 0x8037 0x8037 1 1 "SAMPLES_VALID" .u64 .ro 0 (0) (18446744073709551615) [0] false [],
  row 0x8037 0x8037 2 2 "SAMPLES_OVERSIZE" .u64 .ro 0 (0) (18446744073709551615) [0] false [],
  row 0x8037 0x8037 3 3 "SAMPLES_TRUNCATED" .u64 .ro 0 (0) (18446744073709551615) [0] false [],
  row 0x8037 0x8037 4 4 "SAMPLES_CORRUPT" .u64 .ro 0 (0) (18446744073709551615) [0] false [],
  row 0x8037 0x8037 5 5 "SAMPLES_LATE" .u64 .ro 0 (0) (18446744073709551615) [0] false [],
  row 0x8037 0x8037 6 6 "TEXT_BYTES_IN" .u64 .ro 6 (0) (18446744073709551615) [0] false [],
  row 0x8037 0x8037 7 7 "TOKENS_OUT" .u64 .ro 0 (0) (18446744073709551615) [0] false [],
  row 0x8037 0x8037 8 8 "BYTE_FALLBACK_TOKENS" .u64 .ro 0 (0) (18446744073709551615) [0] false [],
  row 0x8037 0x8037 9 9 "TOKENS_CUT" .u64 .ro 0 (0) (18446744073709551615) [0] false [],
  row 0x8037 0x8037 10 10 "AUDIO_FRAMES_CUT" .u64 .ro 0 (0) (18446744073709551615) [0] false [],
  row 0x8037 0x8037 11 11 "SAMPLE_BYTES_DISCARDED" .u64 .ro 0 (0) (18446744073709551615) [0] false [],
  row 0x8037 0x8037 12 12 "ROI_TILES_COARSE" .u64 .ro 0 (0) (18446744073709551615) [0] false [],
  row 0x8037 0x8037 13 13 "DETOK_UNKNOWN" .u64 .ro 0 (0) (18446744073709551615) [0] false [],
  row 0x8037 0x8037 14 14 "DICT_DUPLICATES" .u64 .ro 0 (0) (18446744073709551615) [0] false [],
  row 0x8037 0x8037 15 15 "VIDEO_FRAMES_DECODED" .u64 .ro 0 (0) (18446744073709551615) [0] false [],
  row 0x8038 0x8038 1 1 "LISTS_ACCEPTED" .u64 .ro 0 (0) (18446744073709551615) [0] false [],
  row 0x8038 0x8038 2 2 "LISTS_DEFERRED" .u64 .ro 0 (0) (18446744073709551615) [0] false [],
  row 0x8038 0x8038 3 3 "REFUSED_ADMIT_LIMIT" .u64 .ro 0 (0) (18446744073709551615) [0] false [],
  row 0x8038 0x8038 4 4 "REFUSED_QUEUE_FULL" .u64 .ro 0 (0) (18446744073709551615) [0] false [],
  row 0x8038 0x8038 5 5 "REFUSED_ALL_PINNED" .u64 .ro 0 (0) (18446744073709551615) [0] false [],
  row 0x8038 0x8038 6 6 "REFUSED_OTHER" .u64 .ro 0 (0) (18446744073709551615) [0] false [],
  row 0x8038 0x8038 7 7 "REFUSED_NOT_RESIDENT" .u64 .ro 0 (0) (18446744073709551615) [0] false [],
  row 0x8038 0x8038 8 8 "MODEL_LOADS" .u64 .ro 0 (0) (18446744073709551615) [0] false [],
  row 0x8038 0x8038 9 9 "MODEL_EVICTIONS" .u64 .ro 0 (0) (18446744073709551615) [0] false [],
  row 0x8038 0x8038 10 10 "MERGE_GROUPS" .u64 .ro 0 (0) (18446744073709551615) [0] false [],
  row 0x8038 0x8038 11 11 "MERGE_MEMBERS" .u64 .ro 0 (0) (18446744073709551615) [0] false [],
  row 0x8038 0x8038 12 12 "MERGE_MISMATCH" .u64 .ro 0 (0) (18446744073709551615) [0] false []]

/-- Objects of the dictionary, part 8 (the tables of the chapters, in the order of index). -/
def dictPart8 : List Row := [
  row 0x8038 0x8038 13 13 "MERGE_WAIT_NS" .u64 .ro 1 (0) (18446744073709551615) [0] false [],
  row 0x8039 0x8039 1 1 "LINK_DOWN_EVENTS" .u64 .ro 0 (0) (18446744073709551615) [0] false [],
  row 0x8039 0x8039 2 2 "RX_FCS_ERRORS" .u64 .ro 0 (0) (18446744073709551615) [0] false [],
  row 0x8039 0x8039 3 3 "RX_FILTERED" .u64 .ro 0 (0) (18446744073709551615) [0] false [],
  row 0x8039 0x8039 4 4 "PFC_RX" .u64 .ro 0 (0) (18446744073709551615) [0] false [],
  row 0x8039 0x8039 5 5 "PFC_TX" .u64 .ro 0 (0) (18446744073709551615) [0] false [],
  row 0x8039 0x8039 6 6 "RAORN_MALFORMED" .u64 .ro 0 (0) (18446744073709551615) [0] false [],
  row 0x8039 0x8039 7 7 "STREAM_SOURCE_MISMATCH" .u64 .ro 0 (0) (18446744073709551615) [0] false [],
  row 0x8039 0x8039 8 8 "RAORN_RETRANSMITS" .u64 .ro 11 (0) (18446744073709551615) [0] false [],
  row 0x8039 0x8039 9 9 "RAORN_FAST_RETRANSMITS" .u64 .ro 0 (0) (18446744073709551615) [0] false [],
  row 0x8039 0x8039 10 10 "RAORN_DUPLICATES" .u64 .ro 0 (0) (18446744073709551615) [0] false [],
  row 0x8039 0x8039 11 11 "RAORN_OUT_OF_WINDOW" .u64 .ro 11 (0) (18446744073709551615) [0] false [],
  row 0x8039 0x8039 12 12 "RAORN_RTO_EXPIRIES" .u64 .ro 0 (0) (18446744073709551615) [0] false [],
  row 0x8039 0x8039 13 13 "CC_DECREASES" .u64 .ro 0 (0) (18446744073709551615) [0] false [],
  row 0x8039 0x8039 14 14 "COMPLETIONS_DISCARDED" .u64 .ro 0 (0) (18446744073709551615) [0] false [],
  row 0x8039 0x8039 15 15 "STREAM_RESETS" .u64 .ro 0 (0) (18446744073709551615) [0] false [],
  row 0x803a 0x803a 1 1 "DV_CRC_ERRORS" .u64 .ro 0 (0) (18446744073709551615) [0] false [],
  row 0x803a 0x803a 2 2 "DV_REPLAYS" .u64 .ro 0 (0) (18446744073709551615) [0] false [],
  row 0x803a 0x803a 3 3 "DV_MSG_INVALID" .u64 .ro 0 (0) (18446744073709551615) [0] false [],
  row 0x803a 0x803a 4 4 "COLLECTIVES_DONE" .u64 .ro 0 (0) (18446744073709551615) [0] false [],
  row 0x803a 0x803a 5 5 "COLL_TIMEOUTS" .u64 .ro 0 (0) (18446744073709551615) [0] false [],
  row 0x803a 0x803a 6 6 "COLL_TRUNCATED" .u64 .ro 0 (0) (18446744073709551615) [0] false [],
  row 0x803a 0x803a 7 7 "COLL_MISMATCH" .u64 .ro 0 (0) (18446744073709551615) [0] false [],
  row 0x803a 0x803a 8 8 "FAILOVERS" .u64 .ro 0 (0) (18446744073709551615) [0] false [],
  row 0x803a 0x803a 9 9 "MIRROR_MISMATCH" .u64 .ro 0 (0) (18446744073709551615) [0] false [],
  row 0x803a 0x803a 10 10 "MIRROR_WRITES" .u64 .ro 0 (0) (18446744073709551615) [0] false [],
  row 0x803a 0x803a 11 11 "REFILL_BYTES" .u64 .ro 0 (0) (18446744073709551615) [0] false [],
  row 0x803a 0x803a 12 12 "REFILLS_DONE" .u64 .ro 0 (0) (18446744073709551615) [0] false [],
  row 0x803a 0x803a 13 13 "REFILLS_ABORTED" .u64 .ro 0 (0) (18446744073709551615) [0] false [],
  row 0x803a 0x803a 14 14 "DV_CONTROL_RESENT" .u64 .ro 0 (0) (18446744073709551615) [0] false [],
  row 0x803a 0x803a 15 15 "DV_CONTROL_DUPLICATES" .u64 .ro 0 (0) (18446744073709551615) [0] false [],
  row 0x803b 0x803b 1 1 "MGMT_REQUESTS" .u64 .ro 0 (0) (18446744073709551615) [0] false [],
  row 0x803b 0x803b 2 2 "MGMT_REFUSED" .u64 .ro 0 (0) (18446744073709551615) [0] false [],
  row 0x803b 0x803b 3 3 "SEM_GRANTS" .u64 .ro 0 (0) (18446744073709551615) [0] false [],
  row 0x803b 0x803b 4 4 "SEM_CONTESTED" .u64 .ro 0 (0) (18446744073709551615) [0] false [],
  row 0x803b 0x803b 5 5 "SEM_BUSY" .u64 .ro 0 (0) (18446744073709551615) [0] false [],
  row 0x803b 0x803b 6 6 "SEAT_BINDS" .u64 .ro 0 (0) (18446744073709551615) [0] false [],
  row 0x803b 0x803b 7 7 "SEAT_LOSSES" .u64 .ro 0 (0) (18446744073709551615) [0] false [],
  row 0x803b 0x803b 8 8 "SEM_RELEASED_BY_LOSS" .u64 .ro 0 (0) (18446744073709551615) [0] false [],
  row 0x803c 0x803c 1 1 "SWITCHOVERS" .u64 .ro 0 (0) (18446744073709551615) [0] false []]

/-- Objects of the dictionary, part 9 (the tables of the chapters, in the order of index). -/
def dictPart9 : List Row := [
  row 0x803c 0x803c 2 2 "RETENTION_ENTRIES" .u64 .ro 0 (0) (18446744073709551615) [0] false [],
  row 0x803c 0x803c 3 3 "RETENTION_INCOMPLETE" .u64 .ro 0 (0) (18446744073709551615) [0] false [],
  row 0x803c 0x803c 4 4 "GROUP_CLOCK_STARTS" .u64 .ro 0 (0) (18446744073709551615) [0] false [],
  row 0x803c 0x803c 5 5 "DIE_PLL_STARTS" .u64 .ro 0 (0) (18446744073709551615) [0] false [],
  row 0x803c 0x803c 6 6 "WAKE_WAIT_NS" .u64 .ro 1 (0) (18446744073709551615) [0] false [],
  row 0x803c 0x803c 7 7 "DEEP_IDLE_ENTRIES" .u64 .ro 0 (0) (18446744073709551615) [0] false [],
  row 0x803c 0x803c 8 8 "PENDING_STARTS" .u64 .ro 0 (0) (18446744073709551615) [0] false [],
  row 0x803d 0x803d 1 1 "HBM_SCRUB_LINES" .u64 .ro 0 (0) (18446744073709551615) [0] false [],
  row 0x803d 0x803d 2 2 "HBM_SCRUB_PASSES" .u64 .ro 0 (0) (18446744073709551615) [0] false [],
  row 0x803d 0x803d 3 3 "SCRUB_PASS_LATE" .u64 .ro 0 (0) (18446744073709551615) [0] false [],
  row 0x803d 0x803d 4 4 "SRAM_SCRUB_PASSES" .u64 .ro 0 (0) (18446744073709551615) [0] false [],
  row 0x803d 0x803d 5 5 "TENON_REEQ" .u64 .ro 0 (0) (18446744073709551615) [0] false [],
  row 0x803d 0x803d 6 6 "HBM_RETRAINS" .u64 .ro 0 (0) (18446744073709551615) [0] false [],
  row 0x803d 0x803d 7 7 "AVS_STEPS" .u64 .ro 0 (0) (18446744073709551615) [0] false [],
  row 0x803d 0x803d 8 8 "NVS_RELOCATIONS" .u64 .ro 0 (0) (18446744073709551615) [0] false [],
  row 0x803d 0x803d 9 9 "TELEMETRY_RECORDS" .u64 .ro 0 (0) (18446744073709551615) [0] false [],
  row 0x803d 0x803d 10 10 "TELEMETRY_DROPPED" .u64 .ro 0 (0) (18446744073709551615) [0] false [],
  row 0x803d 0x803d 11 11 "DIGEST_SLABS_CHECKED" .u64 .ro 0 (0) (18446744073709551615) [0] false [],
  row 0x803d 0x803d 12 12 "PAUSES_EXPIRED" .u64 .ro 0 (0) (18446744073709551615) [0] false [],
  row 0x803d 0x803d 13 13 "SCRUB_WRITEBACK_SKIPPED" .u64 .ro 0 (0) (18446744073709551615) [0] false [],
  row 0x803e 0x803e 1 1 "COMMAND_TIMEOUTS" .u64 .ro 0 (0) (18446744073709551615) [0] false [],
  row 0x803e 0x803e 2 2 "ABORTS_UNACKNOWLEDGED" .u64 .ro 0 (0) (18446744073709551615) [0] false [],
  row 0x803e 0x803e 3 3 "RESETS_CLUSTER_GROUP" .u64 .ro 0 (0) (18446744073709551615) [0] false [],
  row 0x803e 0x803e 4 4 "RESETS_PLANER_HALF" .u64 .ro 0 (0) (18446744073709551615) [0] false [],
  row 0x803e 0x803e 5 5 "RESETS_DIE" .u64 .ro 0 (0) (18446744073709551615) [0] false [],
  row 0x803e 0x803e 6 6 "ENGINE_RESTARTS" .u64 .ro 0 (0) (18446744073709551615) [0] false [],
  row 0x803e 0x803e 7 7 "STALE_REPLIES_DROPPED" .u64 .ro 0 (0) (18446744073709551615) [0] false [],
  row 0x803e 0x803e 8 8 "SUSPECT_COMMANDS" .u64 .ro 0 (0) (18446744073709551615) [0] false [],
  row 0x803e 0x803e 9 9 "REPLAYS_CLEAN" .u64 .ro 0 (0) (18446744073709551615) [0] false [],
  row 0x803e 0x803e 10 10 "REPLAYS_GUILTY" .u64 .ro 0 (0) (18446744073709551615) [0] false [],
  row 0x803e 0x803e 11 11 "REPLAYS_ABANDONED" .u64 .ro 0 (0) (18446744073709551615) [0] false [],
  row 0x803e 0x803e 12 12 "REJOIN_FAILURES" .u64 .ro 0 (0) (18446744073709551615) [0] false [],
  row 0x803e 0x803e 13 13 "LOG_ENTRIES_DROPPED" .u64 .ro 0 (0) (18446744073709551615) [0] false [],
  row 0x803e 0x803e 14 14 "DUMPS_WRITTEN" .u64 .ro 0 (0) (18446744073709551615) [0] false [],
  row 0x803e 0x803e 15 15 "DUMPS_DISCARDED" .u64 .ro 0 (0) (18446744073709551615) [0] false [],
  row 0x803f 0x803f 1 1 "ATTEST_REPORTS" .u64 .ro 0 (0) (18446744073709551615) [0] false [],
  row 0x803f 0x803f 2 2 "ATTEST_ABANDONED" .u64 .ro 0 (0) (18446744073709551615) [0] false [],
  row 0x803f 0x803f 3 3 "IMAGE_COMMITS_FAILED" .u64 .ro 0 (0) (18446744073709551615) [0] false [],
  row 0x803f 0x803f 4 4 "LC_REQUESTS_REFUSED" .u64 .ro 0 (0) (18446744073709551615) [0] false [],
  row 0x8040 0x8040 1 1 "THERMAL_THROTTLE_EVENTS" .u64 .ro 0 (0) (18446744073709551615) [0] false []]

/-- Objects of the dictionary, part 10 (the tables of the chapters, in the order of index). -/
def dictPart10 : List Row := [
  row 0x8040 0x8040 2 2 "THERMAL_TRIPS" .u64 .ro 0 (0) (18446744073709551615) [0] false [],
  row 0x8040 0x8040 3 3 "AVS_NACKS" .u64 .ro 0 (0) (18446744073709551615) [0] false [],
  row 0x8040 0x8040 4 4 "POWER_LIMIT_WINDOWS" .u64 .ro 0 (0) (18446744073709551615) [0] false [],
  row 0x8040 0x8040 5 5 "TRIP_RAILS_KEPT" .u64 .ro 0 (0) (18446744073709551615) [0] false []]

/-- Every object of the dictionary (R392). -/
def dict : List Row :=
  dictPart1 ++ dictPart2 ++ dictPart3 ++ dictPart4 ++ dictPart5 ++ dictPart6 ++ dictPart7 ++ dictPart8 ++ dictPart9 ++ dictPart10

/-- The code of a type (R393). -/
def Ty.code : Ty → Nat
  | .u8 => 1 | .u16 => 2 | .u32 => 3 | .u64 => 4 | .i8 => 5 | .i16 => 6 | .i32 => 7 | .fp32 => 8 | .octet _ => 9

/-- The bytes of a type (R393). -/
def Ty.size : Ty → Nat
  | .u8 => 1 | .u16 => 2 | .u32 => 4 | .u64 => 8 | .i8 => 1 | .i16 => 2 | .i32 => 4 | .fp32 => 4 | .octet n => n

def Access.code : Access → Nat
  | .ro => 0 | .rw => 1 | .rws => 4

def Row.covers (r : Row) (i k : Nat) : Bool :=
  decide (r.ixLo ≤ i) && decide (i ≤ r.ixHi) && decide (r.lo ≤ k) && decide (k ≤ r.hi)

/-- The row that describes an object; none when it is not implemented. -/
def findRow (i k : Nat) : Option Row := dict.find? fun r => r.covers i k

/-- Is the index implemented at all (check 6 of R401)? -/
def indexKnown (i : Nat) : Bool := dict.any fun r => decide (r.ixLo ≤ i) && decide (i ≤ r.ixHi)

/-- The default of an object. -/
def Row.dfltAt (r : Row) (k : Nat) : Nat :=
  match r.dflt with
  | [d] => d
  | ds => ds.getD (k - r.lo) 0

/-- The default stored for an object; 0 for one that is not implemented. -/
def dfltOf (i k : Nat) : Nat :=
  match findRow i k with
  | some r => r.dfltAt k
  | none => 0

/-- The first object of a row after a position, as a key. -/
def Row.nextAfter (r : Row) (key : Nat) : Option Nat :=
  let i := key / 256
  let k := key % 256
  if key < objKey r.ixLo r.lo then some (objKey r.ixLo r.lo)
  else if r.ixLo ≤ i && i ≤ r.ixHi then
    if k < r.lo then some (objKey i r.lo)
    else if k < r.hi then some (objKey i (k + 1))
    else if i < r.ixHi then some (objKey (i + 1) r.lo) else none
  else none

/-- The first implemented object after a position, in order of index, then subindex (R396, R536). -/
def nextObject (key : Nat) : Option Nat := listMin? (dict.filterMap fun r => r.nextAfter key)

/-- The semaphore that governs an RWS object (R411). -/
def semOf (i k : Nat) : Nat :=
  if i = 0x4020 || i = 0x4320 || i = 0x4321 || i = 0x4332 then k - 1
  else if 0x4310 ≤ i && i ≤ 0x431F then 0x40 + (i - 0x4310)
  else if i = 0x4001 || i = 0x4002 then 0x50 + (k - 1) / 32
  else if 0x4040 ≤ i && i ≤ 0x4042 then 0x58
  else if i = 0x4110 || i = 0x4111 then 0x60 + (k - 1) / 16
  else if 0x1040 ≤ i && i ≤ 0x1052 then 0x70
  else if i = 0x1061 then 0x71
  else if i = 0x5005 then 0x72
  else if i = 0x5020 || i = 0x5021 then 0x73 + (k - 1) / 16
  else if 0x3000 ≤ i && i ≤ 0x30FF then 0x80
  else if i = 0x3101 || i = 0x3102 then 0x81
  else if i = 0x3110 then 0x82
  else if 0x1100 ≤ i && i ≤ 0x11FF then 0x90
  else if 0x2000 ≤ i && i ≤ 0x20FF then 0x91
  else if 0x2100 ≤ i && i ≤ 0x21FF then 0x92
  else if 0x2200 ≤ i && i ≤ 0x22FF then 0x93
  else if 0x5100 ≤ i && i ≤ 0x51FF then 0x94
  else if 0x6000 ≤ i && i ≤ 0x60FF then 0x95
  else 0

/-- The objects a pair keeps equal (R385, R386). -/
def mirrored (i : Nat) : Bool :=
  i = 0x4320 || i = 0x4321 || i = 0x4020 || (0x4310 ≤ i && i ≤ 0x431F) || i = 0x4001 ||
  (0x4040 ≤ i && i ≤ 0x4042) || i = 0x4110 || i = 0x4111

/-- Is an index served in S0 (R402)? -/
def servedS0 (i : Nat) : Bool :=
  (0x1000 ≤ i && i ≤ 0x11FF) || (0x2000 ≤ i && i ≤ 0x22FF) || (0x3000 ≤ i && i ≤ 0x30FF) ||
  (0x6000 ≤ i && i ≤ 0x60FF) || (0x7000 ≤ i && i ≤ 0x70FF) || (0x8000 ≤ i && i ≤ 0x8FFF)

/-- The objects served in a stage (R402). -/
def served (stage i : Nat) : Bool :=
  if stage = 4 then true
  else if stage = 2 || stage = 3 || stage = 7 then servedS0 i || (0x5000 ≤ i && i ≤ 0x50FF)
  else servedS0 i

/-- The 8-byte widening of a value for a description (R537). -/
def Ty.widen (t : Ty) (x : Int) : Nat :=
  match t with
  | .octet _ => 0
  | _ => ofSigned 64 x

/-- The signed reading of a raw value, for the signed types. -/
def Ty.toInt (t : Ty) (v : Nat) : Int :=
  match t with
  | .i8 => toSigned 8 v | .i16 => toSigned 16 v | .i32 => toSigned 32 v
  | _ => (v : Int)

/-- The 64-byte description (R399): the row, the subindex, MIN and MAX in force, and the position of the object. -/
def describeBytes (r : Row) (i k : Nat) (mn mx : Int) : List Byte :=
  let nx := (nextObject (objKey i k)).getD 0xFFFFFF
  let flags := b2n (mirrored i) + 2 * b2n (servedS0 i) + 4 * b2n r.noDefault
  let dv := match r.ty with
    | .octet _ => r.dfltAt k % 2 ^ 64
    | t => ofSigned 64 (t.toInt (r.dfltAt k))
  leBytes 1 r.ty.code ++ leBytes 1 r.acc.code ++ leBytes 1 r.units ++ leBytes 1 flags ++
  leBytes 1 (if r.acc = .rws then semOf i k else 0) ++ leBytes 1 0 ++ leBytes 2 r.ty.size ++
  leBytes 8 (r.ty.widen mn) ++ leBytes 8 (r.ty.widen mx) ++ leBytes 8 dv ++
  leBytes 2 (nx / 256) ++ leBytes 1 (nx % 256) ++ leBytes 1 0 ++ padTo 28 (ascii r.name)

end Sys2Proof.Machine
end

