-- ==== Sys2Proof/Syntax.lean ====
section
/-! DEFINITION. The commands the block takes: one constructor for each row of the operation table. -/

namespace Sys2Proof

/-- The shared resources of R92, the stream trackers of a stack (R244), the codec engines (R226), the intake engines (R284: unit
0 JPEG, 1 PNG, 2 audio, 3 geometry to normalisation) and the dictionary slots (R278). -/
inductive Arb where
  | matrix | bank | vector | scalar | pool | tracker | squeezer | expander | media | dict
  deriving DecidableEq, Repr

/-- One contested grant (R91): the unit's number, and the requesters with their priority classes. -/
structure Contest where
  res : Arb
  unit : Nat
  reqs : List (Nat × Nat)
  deriving DecidableEq, Repr

/-- How long other slots still hold the two accumulator banks of a core when a tile of the command asks for one (R85): the core,
the tile's place among those that claim a bank, and the cycles for bank 0 and bank 1. -/
structure BankHold where
  core : Nat
  tile : Nat
  bank0 : Nat
  bank1 : Nat
  deriving DecidableEq, Repr

/-- A row of HBM (R231, R262): its stack, its pseudo channel in the stack, its bank and its number in the bank. -/
structure HbmRow where
  stack : Nat
  pc : Nat
  bank : Nat
  row : Nat
  deriving DecidableEq, Repr

/-- What the accesses to one pseudo channel that no dispatched command makes (prefetches, write-backs, scrubs, DATA messages,
Planer slabs, granted engines, traffic generators) have cost since its latest refresh (R247, R250, R258). -/
structure ChannelCosts where
  pc : Nat
  ceHbm : Nat := 0
  ceSram : Nat := 0
  bankConflicts : Nat := 0
  turnarounds : Nat := 0
  throttleNs : Nat := 0
  deriving DecidableEq, Repr

/-- What the silicon and the neighbouring contexts do to a command while it runs: cores that meet an instruction they cannot execute
(R466), cores that do not finish (R462), locations and words of cached lines that have become uncorrectable or were corrected
(R249-R251), lines that its declared streams read ahead of the demand (R241), contested grants (R91), the banks that other slots hold
(R85) and the measured costs of R93, R228, R247 and R258. -/
structure Env where
  illegal : List Nat := []
  hang : List Nat := []
  newUe : List Nat := []
  newCacheUe : List Nat := []
  prefetched : List Nat := []
  ceHbm : Nat := 0
  ceSram : Nat := 0
  contests : List Contest := []
  bankHolds : List BankHold := []
  portRetries : Nat := 0
  bankConflicts : Nat := 0
  turnarounds : Nat := 0
  throttleNs : Nat := 0
  wakeNs : Nat := 0
  stallCycles : Nat := 0
  deriving DecidableEq, Repr

/-- The dispatch of one entry of a command list (R315): its context, the list's stream and tag, the entry's index,
its 64-bit header, its descriptor, and the environment of its run. -/
structure Dispatch where
  ctx : Nat
  stream : Nat
  listTag : Nat
  entry : Nat
  hdr : Nat
  desc : Desc
  env : Env
  deriving DecidableEq, Repr

/-- A command list as it arrives (R314): its COMMAND stream, its header, its entries (header and descriptor), its row. -/
structure ListReq where
  stream : Nat
  hdr : Nat
  entries : List (Nat × Desc)
  row : List Byte
  deriving DecidableEq, Repr

/-- A management request (R395, R396): its stream, its OP, its tag, index, subindex and length fields, its reserved fields as one
number, the value it carries, and the streams of the other requests of its cycle: those that ask for the same free resource (R410),
or that R398 orders with it in its third step. A command takes a request that carries its own OP, or a reserved one. -/
structure Req where
  stream : Nat
  op : Nat
  tag : Nat
  index : Nat
  sub : Nat
  length : Nat
  rsv : Nat
  value : List Byte
  rivals : List Nat
  deriving DecidableEq, Repr

/-- One context of a refill (R388): its number, model, record and the ranges of R306, and its completed Planer jobs. -/
structure RefillCtx where
  ctx : Nat
  model : Nat
  record : Nat
  part : Nat × Nat
  cache : Nat × Nat
  pool : Nat × Nat
  jobs : List (Nat × Desc)
  deriving DecidableEq, Repr

/-- What REFILL_BEGIN carries (R388): the objects of R385 as index, subindex and value, the ACTIVE codec tables by
generation, the cursors of the intake streams, and the contexts. -/
structure Refill where
  objs : List (Nat × Nat × Nat)
  tables : List (Nat × List Byte)
  cursors : List (Nat × Nat × Nat)
  ctxs : List RefillCtx
  deriving DecidableEq, Repr

/-- A Raorn packet as it arrives (R334, R338): the source address and UDP port, the CE mark of the IPv6 header, the header
fields with the reserved bits as one number, and the payload. TYPE is that of the row that receives it, or a reserved one. -/
structure Packet where
  addr : Nat
  port : Nat
  ce : Bool
  version : Nat
  type : Nat
  flags : Nat
  rsv : Nat
  stream : Nat
  seq : Nat
  ack : Nat
  sack : Nat
  window : Nat
  len : Nat
  ts : Nat
  tsEcho : Nat
  payload : List Byte
  deriving DecidableEq, Repr

/-- A DATA message of the host (R351): its stream, header bytes 1-3, TAG, OFFSET, LENGTH and body. -/
structure DataReq where
  stream : Nat
  ctx : Nat
  model : Nat
  reason : Nat
  tag : Nat
  off : Nat
  len : Nat
  body : List Byte
  deriving DecidableEq, Repr

/-- The result of one Tenon training (R24, R524): the failed lanes of each direction as bitmaps of 66, the bits tested per
lane, the errors and the number of each direction's worst lane. -/
structure LinkRun where
  link : Nat
  failedAB : Nat
  failedBA : Nat
  bits : Nat
  errAB : Nat
  errBA : Nat
  laneAB : Nat
  laneBA : Nat
  deriving DecidableEq, Repr

/-- One hop of a Tenon flit (R22, R26): its link, whether it runs from the end named first in R20 to the other, and the dies that
the flit comes from and goes to. -/
structure TenonHop where
  link : Nat
  toB : Bool
  src : Nat
  dst : Nat
  deriving DecidableEq, Repr

/-- The end of a die's power-on self-test (R438); for the IOD, which reads its own descriptor from its fuses, also whether three
reads of it fail the CRC32 (R37). -/
inductive SelfTest where
  | failed | passed | descriptorBad
  deriving DecidableEq, Repr

/-- The commands of the block, one constructor per row of the operation table. -/
inductive Instr where
  /-- R119: Core command that computes C = A × B (+ β × C) over the run-time matrix views, with anchored or fixed-frame accumulation and a single rounding. -/
  | matmul (d : Dispatch)
  /-- R126: Core command that computes a convolution as a MATMUL over a virtual operand that the Jig forms from X in place. -/
  | conv (d : Dispatch)
  /-- R129: Window-path command that computes a grouped or depth-wise convolution as one anchored sum per output element. -/
  | convGrouped (d : Dispatch)
  /-- R130: POOL command with POOL_OP MAX that returns the largest element of each window. -/
  | maxPooling (d : Dispatch)
  /-- R130: POOL command with POOL_OP AVG that divides the anchored window sum by the divisor that DIV_MODE selects. -/
  | averagePooling (d : Dispatch)
  /-- R130: POOL command with POOL_OP SUM that writes the anchored sum of each window. -/
  | sumPooling (d : Dispatch)
  /-- R132: VECTOR operation that converts A into C's format with one rounding. -/
  | convert (d : Dispatch)
  /-- R132: VECTOR operation that computes A + B, correctly rounded. -/
  | add (d : Dispatch)
  /-- R132: VECTOR operation that computes A − B, correctly rounded. -/
  | sub (d : Dispatch)
  /-- R132: VECTOR operation that computes A × B, correctly rounded. -/
  | mul (d : Dispatch)
  /-- R132: VECTOR operation that computes A × B + SCALAR with one rounding. -/
  | fma (d : Dispatch)
  /-- R132: VECTOR operation that returns the larger of A and B, with NaN propagated and +0 taken as greater than −0. -/
  | max (d : Dispatch)
  /-- R132: VECTOR operation that returns the smaller of A and B under the same rules as MAX. -/
  | min (d : Dispatch)
  /-- R132: VECTOR operation that returns A if A > 0, otherwise +0. -/
  | relu (d : Dispatch)
  /-- R132: VECTOR operation that returns A if A ≥ 0, otherwise ALPHA × A. -/
  | leakyRelu (d : Dispatch)
  /-- R132: VECTOR operation that computes 1 / (1 + e^−A) to within 2 ulp. -/
  | sigmoid (d : Dispatch)
  /-- R132: VECTOR operation that computes tanh A to within 2 ulp. -/
  | tanh (d : Dispatch)
  /-- R132: VECTOR operation that computes ln(1 + e^A), and passes A through for A > 20. -/
  | softplus (d : Dispatch)
  /-- R132: VECTOR operation that computes e^A. -/
  | exp (d : Dispatch)
  /-- R132: VECTOR operation that computes ln A, with the special values the table gives. -/
  | log (d : Dispatch)
  /-- R132: VECTOR operation that computes 1 / A, correctly rounded. -/
  | recip (d : Dispatch)
  /-- R132: VECTOR operation that computes 1 / √A, with the special values the table gives. -/
  | rsqrt (d : Dispatch)
  /-- R151: VECTOR operation that computes A × Φ(A) and writes a side code per element to TD. -/
  | gelu (d : Dispatch)
  /-- R151: VECTOR operation that computes A × sigmoid(A) and writes a side code per element to TD. -/
  | silu (d : Dispatch)
  /-- R72: VECTOR operation that forms the anchored sum along dimension 0. -/
  | reduceSum (d : Dispatch)
  /-- R132: VECTOR operation that returns the largest element along dimension 0. -/
  | reduceMax (d : Dispatch)
  /-- R132: VECTOR operation that computes e^(A − max) divided by the anchored sum along dimension 0. -/
  | softmax (d : Dispatch)
  /-- R149: Backward VECTOR operation that selects dY where y > 0, and +0 otherwise. -/
  | reluBwd (d : Dispatch)
  /-- R149: Backward VECTOR operation that returns dY, or ALPHA × dY where the sign bit of y is set. -/
  | leakyReluBwd (d : Dispatch)
  /-- R149: Backward VECTOR operation that computes dY × y × (1 − y) with one rounding. -/
  | sigmoidBwd (d : Dispatch)
  /-- R149: Backward VECTOR operation that computes dY × (1 − y²) with one rounding. -/
  | tanhBwd (d : Dispatch)
  /-- R149: Backward VECTOR operation that computes dY × (1 − e^−y). -/
  | softplusBwd (d : Dispatch)
  /-- R149: Backward VECTOR operation that computes dY × y with one rounding. -/
  | expBwd (d : Dispatch)
  /-- R149: Backward VECTOR operation that computes y_i × (dY_i − s) along dimension 0, with s an anchored sum. -/
  | softmaxBwd (d : Dispatch)
  /-- R152: Backward VECTOR operation that multiplies dY by the derivative that it decodes from the side code. -/
  | geluBwd (d : Dispatch)
  /-- R152: Backward VECTOR operation that multiplies dY by the SiLU derivative that it decodes from the side code. -/
  | siluBwd (d : Dispatch)
  /-- R156: VECTOR operation that drops each element by its purpose-0 draw against p and scales each kept element. -/
  | dropout (d : Dispatch)
  /-- R158: VECTOR operation that writes +0 to the elements of every sample whose validity bit is clear. -/
  | maskRows (d : Dispatch)
  /-- R134: MOVE with MODE COPY that copies or converts the source into the destination's run-time extents. -/
  | copy (d : Dispatch)
  /-- R134: MOVE with MODE FILL that converts SCALAR once and writes it to every destination element. -/
  | fill (d : Dispatch)
  /-- R213: MOVE with MODE SQUEEZE that encodes the source bytes into a codec stream on a squeezer engine. -/
  | squeeze (d : Dispatch)
  /-- R215: MOVE with MODE EXPAND that decodes a codec stream into the destination on an expander engine. -/
  | expand (d : Dispatch)
  /-- R96: Core command that arrives on the context's barrier channel, optionally with a reduction, and waits for release. -/
  | barrier (d : Dispatch)
  /-- R135: Core command that loads a 64-bit word from memory into a scalar register. -/
  | loadreg (d : Dispatch)
  /-- R372: COLLECTIVE that sums E5M2 block-scaled data across the topology in an exponent round and an integer sum round. -/
  | allReduce (d : Dispatch)
  /-- R375: COLLECTIVE that copies the root's D bytes to TC on every device. -/
  | broadcast (d : Dispatch)
  /-- R375: COLLECTIVE that writes the D bytes of each rank at offset r × D on every device. -/
  | allGather (d : Dispatch)
  /-- R168: Planer job that forms the packed E5M2 gradient and the new Kerf from dW and the old Kerf. -/
  | pack (d : Dispatch)
  /-- R172: Planer UPDATE job under rule MOMENT2 that commits the moments and then the weights, slab by slab, under the journal. -/
  | moment2Update (d : Dispatch)
  /-- R173: Planer UPDATE job under rule ORTHO that updates the momentum, orthogonalises it by Newton–Schulz and commits the weights. -/
  | orthoUpdate (d : Dispatch)
  /-- R219: Codec table command that loads and checks a table image into a free slot and makes it ACTIVE. -/
  | tableLoad (d : Dispatch)
  /-- R220: Codec table command that sets the ACTIVE slot of a generation to RETIRING. -/
  | tableRetire (d : Dispatch)
  /-- R296: Intake command that claims the next N sample numbers of an intake stream into the slots of a batch. -/
  | batch (d : Dispatch)
  /-- R278: Intake command that checks a tokenizer dictionary image, builds its lookup index and marks the slot LOADED. -/
  | dictLoad (d : Dispatch)
  /-- R278: Intake command that returns a dictionary slot of the context to FREE. -/
  | dictUnload (d : Dispatch)
  /-- R282: Intake command that converts token numbers back into UTF-8 bytes and writes a result record. -/
  | detok (d : Dispatch)
  /-- R396: Management request that reads one object whole. -/
  | read (q : Req)
  /-- R401: Management request that writes an object that has no row of its own, after the ordered checks of R401. -/
  | write (q : Req)
  /-- R399: Management request that returns the 64-byte description of an object. -/
  | describe (q : Req)
  /-- R536: Management request that describes the first implemented object after the position named. -/
  | describeNext (q : Req)
  /-- R404: Management request that binds the stream to seat A, seat B or any free seat. -/
  | bind (q : Req)
  /-- R407: Management request that releases the stream's seat and every semaphore the seat holds. -/
  | unbind (q : Req)
  /-- R409: Write of 1 to SEM_HOLDER that acquires a semaphore for the writing seat. -/
  | semAcquire (q : Req)
  /-- R409: Write of 0 to SEM_HOLDER that releases a semaphore held by the writing seat. -/
  | semRelease (q : Req)
  /-- R25: Write of 1 to a Tenon link's RETRAIN_REQUEST that queues a training of the link under the one-link-per-die rule. -/
  | retrainRequest (q : Req)
  /-- R49: Write that binds, rebinds or unbinds an open-site channel to a Raorn stream, closing any open sample. -/
  | openSiteBind (q : Req)
  /-- R199: Write of 0 to a context's DRIFTED_SLABS that clears its drift marks. -/
  | driftedSlabs (q : Req)
  /-- R305: Write of 1 to MODEL_CONTROL that queues the model's load, or refuses it. -/
  | load (q : Req)
  /-- R311: Write of 2 to MODEL_CONTROL that stops the model's context, refuses its queued lists and cancels a queued load. -/
  | retire (q : Req)
  /-- R270: Write of INTAKE_CONFIG, accepted by the stream state rule, whose KIND value starts, stops or restarts the intake stream. -/
  | intakeConfig (q : Req)
  /-- R332: Write of 1 to PORT_RETRAIN that retrains the host port in FULL mode in S2. -/
  | portRetrain (q : Req)
  /-- R358: Write of a Dovetail port's role that starts training, changes the role, or stops the port. -/
  | portRole (q : Req)
  /-- R367: Write of the fabric topology that is refused while a collective runs and resets NEXT_COLL_ID. -/
  | topology (q : Req)
  /-- R380: Write of FORM to PAIR_CONTROL that starts forming a Pas de deux with the partner. -/
  | form (q : Req)
  /-- R380: Write of DONATE to PAIR_CONTROL that starts forming a pair as the refill donor. -/
  | donate (q : Req)
  /-- R380: Write of RECEIVE to PAIR_CONTROL that starts forming a pair as the refill receiver. -/
  | receive (q : Req)
  /-- R380: Write of LEAVE to PAIR_CONTROL that leaves or cancels the pair state. -/
  | leave (q : Req)
  /-- R260: Write of 1 to TGEN_CONTROL that starts a traffic-generator run, or refuses it. -/
  | tgenStart (q : Req)
  /-- R260: Write of 2 to TGEN_CONTROL that stops a traffic-generator run. -/
  | tgenStop (q : Req)
  /-- R434: Write of 1 to DEEP_IDLE_REQUEST that enters DEEP_IDLE, or refuses it. -/
  | deepIdleRequest (q : Req)
  /-- R435: Write of 0 to DEEP_IDLE_REQUEST that powers and wipes the dies and caches and returns the package to IDLE. -/
  | deepIdleExit (q : Req)
  /-- R428: Write of KEEP_WARM; clearing a bit while every group clock of the die is OFF begins the die's idle period. -/
  | keepWarm (q : Req)
  /-- R458: Write of 1 to a task's BG_CONTROL that pauses the background task, or refuses the pause. -/
  | pause (q : Req)
  /-- R458: Write of 0 to a task's BG_CONTROL that resumes a paused background task. -/
  | run (q : Req)
  /-- R486: Write that starts the reset of a named domain. -/
  | resetRequest (q : Req)
  /-- R469: Write of 0 to CTX_HOLD that releases the held entries and queued lists of a guilty context. -/
  | ctxHold (q : Req)
  /-- R493: Write of BEGIN to IMAGE_CONTROL that erases the stored image header and opens an image transfer. -/
  | begin (q : Req)
  /-- R492: Write of 4,096 image bytes at IMAGE_OFFSET, which then advances. -/
  | imageWindow (q : Req)
  /-- R493: Write of IMAGE_OFFSET in WRITING that moves the point at which later window writes store. -/
  | imageOffset (q : Req)
  /-- R492: Write of COMMIT to IMAGE_CONTROL that starts checks 2–8 of R490 on the stored image. -/
  | commit (q : Req)
  /-- R493: Write of ABORT to IMAGE_CONTROL that returns it to IDLE and leaves the stored bytes. -/
  | abort (q : Req)
  /-- R494: Write that blows SVN_FLOOR bits up to the running image's SVN. -/
  | svnCommit (q : Req)
  /-- R502: Write of a target life-cycle state that checks the transition and, when accepted, records it, blows fuses and resets the package. -/
  | lcRequest (q : Req)
  /-- R497: Write of a seat's nonce that starts, or restarts, the signing of an attestation report. -/
  | attestNonce (q : Req)
  /-- R319: Arrival, whole, of a command list on a COMMAND stream, which is checked, queued, merged and counted. -/
  | commandList (q : ListReq)
  /-- R319: Admission of a waiting list, or of a closed group, once its model is RESIDENT and no earlier list of the model waits or dispatches. -/
  | admitList (m : Nat)
  /-- R321: Expiry of a list's admission limit, which refuses its commands with REFUSED_CAPACITY, reason 0x01. -/
  | admitLimit (list : Nat)
  /-- R325: Expiry of the merge window, which closes an open group and queues it as one list. -/
  | mergeWindow (list : Nat)
  /-- R307: A queued load reaching the head of the load queue, or being decided again, which proceeds, evicts, waits or is refused. -/
  | loadDecision
  /-- R308: Expiry of 1 s with no image byte on the source stream, which fails the load. -/
  | loadFailed (m : Nat)
  /-- R312: End of a context's stop after its last completion and verified wipe, which releases its resources or starts a queued load. -/
  | modelStopComplete (m retried : Nat) (repairs : List HbmRow) (ok : Bool)
  /-- R462: Expiry of a command's timeout, which aborts the command on the engine that holds it. -/
  | timeout (flight : Nat) (unacked : List Nat) (stuck : Bool)
  /-- R462: Expiry of an abort's limit, which resets the cluster groups or the Planer half that did not acknowledge, or restarts the engine. -/
  | abortLimit (flight half : Nat)
  /-- R345: Receipt of a Raorn DATA packet, which is acknowledged, buffered and delivered in SEQ order. -/
  | data (k : Packet)
  /-- R347: Receipt of a Raorn acknowledgement, which frees packets, updates the RTT estimate and cwnd, and can trigger a fast retransmission. -/
  | ack (k : Packet)
  /-- R341: Receipt of an OPEN packet, which binds, queues or refuses a stream and answers with OPEN_ACK. -/
  | open (k : Packet)
  /-- R342: Receipt of a CLOSE packet, which puts the stream into STOPPING. -/
  | close (k : Packet)
  /-- R342: Receipt of a RESET packet, which stops the stream at once and discards its unacknowledged data. -/
  | reset (k : Packet)
  /-- R342: End of a stream's stop, which makes it CLOSED and carries out any queued OPEN. -/
  | streamStopComplete (n : Nat)
  /-- R345: Expiry of the 4 µs acknowledgement bound, which sends the acknowledgement due. -/
  | raornAckTimer (n : Nat)
  /-- R345: Expiry of the retransmission timeout, which resends the packet, collapses cwnd and, at MAX_SENDS, resets the stream. -/
  | rtoExpiry (n : Nat)
  /-- R348: Choice among ready streams of the next packet to send, acknowledgements first, then R91 by class. -/
  | transmit
  /-- R351: Host DATA message WRITE that stores bytes in the context's partition and answers WRITE_DONE. -/
  | dataWrite (q : DataReq)
  /-- R351: Host DATA message READ that answers with READ_DATA of the bytes as they stand. -/
  | dataRead (q : DataReq)
  /-- R308: Host DATA message IMAGE that delivers a model image, after which tables and pins are read and the model becomes RESIDENT. -/
  | image (q : DataReq)
  /-- R534: Host DATA message that carries an OP only the device sends, whose body is consumed and answered with DATA_ERROR 0x04. -/
  | deviceOpFromHost (op : Nat) (q : DataReq)
  /-- R534: Host DATA message with a reserved OP, which resets the stream with reason 0x02. -/
  | reservedDataOp (op : Nat) (q : DataReq)
  /-- R335: Receipt of an Ethernet frame that the filters, or the FCS check, discard and count. -/
  | filteredFrame (frame : List Byte)
  /-- R335: Receipt of an ICMPv6 Neighbor Solicitation, which is answered as RFC 4861 defines. -/
  | neighborSolicitation (src mac target : Nat)
  /-- R335: Receipt of a Neighbor Advertisement, which resolves a stream host's MAC address. -/
  | neighborAdvertisement (target mac : Nat) (solicited override : Bool)
  /-- R335: Receipt of an ICMPv6 Echo Request, which is answered as RFC 4443 defines. -/
  | echoRequest (src dst ident seq : Nat) (data : List Byte)
  /-- R337: Receipt of a priority flow control frame, which pauses or releases priorities within the stated quanta. -/
  | pfc (mask : Nat) (times : List Nat)
  /-- R337: Expiry of a received PFC pause time, which releases the paused priority. -/
  | pfcPauseEnd (p : Nat)
  /-- R337: Expiry of the 32,768-quanta interval while the buffer stays low, which resends XOFF. -/
  | pfcRefresh
  /-- R333: Loss of the host link, which stops every Raorn timer and freezes the congestion windows. -/
  | linkDown
  /-- R333: Return of the host link, which resumes the Raorn timers from their stopped values. -/
  | linkUp
  /-- R332: Expiry of 500 ms without FULL on entry to S2, which trains SINGLE and sets PORT_FALLBACK. -/
  | portFallback
  /-- R407: Expiry of SEAT_IDLE_LIMIT with no request from a seat's stream, which frees the seat and its semaphores. -/
  | idleLoss (seat : Nat)
  /-- R48: Receipt of an open-site DATA message, which is checked and passed to the intake on the bound stream. -/
  | openSiteData (hdr : Nat) (payload : List Byte)
  /-- R46: Receipt of an open-site END_OF_SAMPLE message, which closes one sample. -/
  | openSiteEndOfSample (hdr : Nat)
  /-- R47: Receipt of an open-site CREDIT message, which grants outbound credits. -/
  | openSiteCredit (hdr : Nat)
  /-- R49: Loss of the open-site link in S2, which closes the open samples on all channels and keeps the bindings. -/
  | openSiteLinkDown
  /-- R22: Receipt of a Tenon flit, which is checked by CRC, retried on failure and delivered in order exactly once. -/
  | tenonFlit (hop : TenonHop) (seq : Nat) (ok : Bool) (reply : Option (Nat × Nat × Nat × Nat)) (bytes : List Byte)
  /-- R25: A lane's retry rate exceeding 1 in 10^6 flits over 1 ms, which triggers re-equalisation and, if needed, retraining. -/
  | retryRateExceeded (link : Nat)
  /-- R24: End of a Tenon link training, which sets its width and state, moves detours, and starts the next waiting training on the die. -/
  | tenonTrainingDone (r : LinkRun) (crcBad : Bool)
  /-- R360: Receipt of a Dovetail flit, which is checked, acknowledged or NAKed, and assembled into messages per VC. -/
  | dvFlit (p : Nat) (bs : List Byte)
  /-- R360: Expiry of 200 ns with unacknowledged flits, which sends an ACK. -/
  | dvAckTimer (p : Nat)
  /-- R360: Expiry of 3 µs for an unacknowledged flit, which replays from the oldest unacknowledged flit. -/
  | dvReplayTimer (p : Nat)
  /-- R357: A port's replay rate exceeding 1 in 10^6 flits over 1 ms, which triggers re-equalisation or retraining. -/
  | dvReplayRateExceeded (p : Nat)
  /-- R357: End of a Dovetail port training, which sets the port UP, UP_HALF or DOWN and moves role traffic. -/
  | portTrainingDone (p failed ns : Nat)
  /-- R358: Expiry of the 1 s interval for a DOWN port, which attempts its retraining. -/
  | portRetry (p : Nat)
  /-- R358: End of a port's stop, with its replay buffer drained or 10 µs passed, which makes it OFF or starts a queued training. -/
  | portStopComplete (p : Nat)
  /-- R382: Expiry of the 10 µs heartbeat interval in PAIRED, which sends HEARTBEAT. -/
  | heartbeatSend
  /-- R382: Receipt of a HEARTBEAT, which is answered with HEARTBEAT_ACK within 5 µs. -/
  | heartbeat (n : Nat)
  /-- R382: Receipt of a HEARTBEAT_ACK, which counts as a flit from the partner. -/
  | heartbeatAck (n : Nat)
  /-- R383: Expiry of 200 µs with no flit from the partner, which declares failover and continues in SOLO. -/
  | failover
  /-- R381: Receipt of PAIR_HELLO, which is checked and moves the pair to PAIRED, REFILL_SEND or REFILL_RECV, or back with a reason. -/
  | pairHello (serial measurement control : Nat) (busy : Bool)
  /-- R380: Expiry of 1 s in FORMING with no valid PAIR_HELLO, which returns the pair to OFF or SOLO with reason 0x01. -/
  | pairHelloTimeout
  /-- R380: Receipt of PAIR_LEAVE in PAIRED, which moves the device to SOLO. -/
  | pairLeave
  /-- R380: End of the pair's stop, with PAIR_LEAVE sent and the mirror queue empty, which makes the pair OFF or starts a queued formation. -/
  | pairStopComplete
  /-- R386: Receipt by member 0 of a MIRROR_WRITE, which it sequences, applies and answers with MIRROR_APPLY. -/
  | mirrorWrite (index sub : Nat) (value : List Byte)
  /-- R386: Receipt by member 1 of a MIRROR_APPLY, which it applies in sequence order and then acknowledges to the writing seat. -/
  | mirrorApply (seq index sub : Nat) (value : List Byte)
  /-- R387: Receipt of the partner's BATCH_CLAIM, which is compared with the local claim and mask. -/
  | batchClaim (e : List Nat)
  /-- R188: Receipt of the partner's JOB_START, which is compared with the local one before an UPDATE changes state. -/
  | jobStart (start : List Byte)
  /-- R189: Receipt of the partner's AGREE for a slab, which allows the slab home on equal checksums or starts arbitration. -/
  | agree (r : Nat) (again : List (Nat × Nat))
  /-- R191: Receipt of the partner's RECHECK, which decides the arbitration of a diverged slab. -/
  | recheck (k sum grad old : Nat)
  /-- R191: Receipt of the partner's known-answer self-check result, which decides orders 6–8 of arbitration. -/
  | katResult (k : Nat) (pass : Bool)
  /-- R197: Receipt of a slab's staged bytes, which are checked against the checksum and written home. -/
  | slabXfer (k sweep : Nat) (bs : List Byte)
  /-- R197: Receipt of a partner's DRIFT_FETCH, which checks the home slab and answers with SLAB_XFER. -/
  | driftFetch (c job k sweep : Nat)
  /-- R371: Receipt of a neighbour's COLL_HEAD, which is compared with the local collective's parameters. -/
  | collHead (role id : Nat) (bs : List Byte)
  /-- R372: Receipt of block-scale bytes in the exponent round of an all-reduce. -/
  | collExp (role chunk id off flags : Nat) (bs : List Byte)
  /-- R374: Receipt of 32-bit partial sums, which are added as integers. -/
  | collSum (role chunk id off flags : Nat) (bs : List Byte)
  /-- R375: Receipt of result or source bytes of a collective, which are written to TC and passed on. -/
  | collData (role chunk id off flags : Nat) (bs : List Byte)
  /-- R371: Receipt of COLL_ABORT, which completes the collective with DESCRIPTOR_INVALID and passes the abort on. -/
  | collAbort (role id : Nat) (bs : List Byte)
  /-- R388: The donor's dispatched commands and Planer job having finished, which sends REFILL_BEGIN. -/
  | donorQuiesced
  /-- R388: Receipt of REFILL_BEGIN, from which the receiver creates the donor's contexts with the same numbers and ranges. -/
  | refillBegin (r : Refill)
  /-- R388: Receipt of a partition segment, which is checked by CRC-64 and stored, resent once or aborted. -/
  | refillData (c off : Nat) (bs : List Byte) (crc : Nat)
  /-- R388: Receipt of REFILL_END, which checks the digest tables, starts the intake streams and enters PAIRED. -/
  | refillEnd (crc : Nat)
  /-- R179: End of the computation of a slab into staging, which records the STAGED state and sends AGREE. -/
  | slabStaged (h : Nat) (err again : List (Nat × Nat))
  /-- R191: End of the known-answer self-check of arbitration, which sends KAT_RESULT. -/
  | katDone (h : Nat) (pass : Bool)
  /-- R181: Expiry of the 1 ms interval, which drains the journal buffer to the NVS ring. -/
  | journalDrain
  /-- R185: Restoration of S2 after backup power, which resumes the interrupted Planer job from its journal. -/
  | planerResume
  /-- R219: A codec slot becoming FREE, which the waiting LOAD takes before it continues loading. -/
  | tableLoadSlotTaken
  /-- R226: A squeezer or expander engine becoming free, which is granted to the waiting request. -/
  | engineGrant (sq : Bool)
  /-- R272: Arrival of a sample header and data on an intake stream, which numbers the sample and queues it for decoding once claimed. -/
  | sample (k hdr : Nat) (data : List Byte)
  /-- R297: End of decoding and post-processing of a claimed sample, which writes its slot or hole and completes the batch when every slot is resolved. -/
  | sampleResolved (k n : Nat)
  /-- R295: Expiry of a sample's time budget, which makes it a hole with SAMPLE_LATE. -/
  | timeBudget (k n : Nat)
  /-- R293: Expiry of the 10 µs STRICT interval, which re-reads the ROI map until it is valid. -/
  | roiReread (k n : Nat)
  /-- R271: End of an intake stream's stop, which makes it OFF or runs the queued start's enable checks. -/
  | intakeStopComplete (k : Nat)
  /-- R231: Expiry of the 3.9 µs refresh interval, which makes a pseudo channel unavailable for 136.5 ns. -/
  | hbmRefresh (h : Nat) (c : ChannelCosts)
  /-- R256: Expiry of the 250 µs interval, which reads the stack temperatures and changes the throttle steps. -/
  | hbmTempSample (md : Nat) (temps : List Int)
  /-- R241: A stream tracker reading a line ahead of the demand into the context's cache share. -/
  | prefetch (ctx line : Nat) (learned : Bool)
  /-- R260: End of a traffic-generator run, which reports TGEN_RESULT and wipes any rows written outside the test rows. -/
  | tgenRunDone (sub acc bad first lanes retried : Nat) (repairs : List HbmRow) (ok : Bool)
  /-- R263: End of the verified package wipe, which sets WIPE_STATUS to DONE or holds S1 with reason 0x12. -/
  | wipeDone (retried : Nat) (repairs : List HbmRow) (bad : List Nat)
  /-- R447: Issue of a background patrol read of an HBM line within the share of R446. -/
  | hbmScrub (a err : Nat) (skipped last : Bool)
  /-- R449: Read of an SRAM word through an unused port cycle, with the corrected word written back. -/
  | sramScrub (a err : Nat) (last : Bool)
  /-- R450: Expiry of the 60 s interval, which re-equalises one direction of a Tenon link. -/
  | tenonEq (link : Nat)
  /-- R451: Expiry of the 100 ms interval, or a 5 °C move of the stack, which retrains an HBM channel in a gap. -/
  | hbmRetrain (sub : Nat) (gap : Bool)
  /-- R451: Expiry of the 1 ms wait for a gap, which retrains the channel at once. -/
  | hbmRetrainWaitExpiry (sub : Nat)
  /-- R452: Tick of the 10 kHz heater control, which holds each ring resonator on its wavelength. -/
  | opticalTune (e heater : Nat) (limit : Bool)
  /-- R453: Expiry of the 1 s interval, which reads the aging monitors and sets the rail targets. -/
  | avs (targets : List (Nat × Nat))
  /-- R453: Expiry of the 10 ms step interval, which moves a rail set point by 5 mV toward its target. -/
  | avsStep (rail : Nat)
  /-- R512: Expiry of 2 ms without a regulator's acknowledgement, which stops AVS on that rail. -/
  | avsNack (rail : Nat)
  /-- R454: A block's write count exceeding the area's mean by 4,096, which moves and remaps the block. -/
  | nvsWear (block writes : Nat)
  /-- R456: Expiry of TELEMETRY_PERIOD, which reads the items and sends a periodic record on each TELEMETRY stream. -/
  | telemetryPeriod (full : List Nat)
  /-- R457: Background read of a recorded slab, which is compared with the digest table and flags drift. -/
  | digestWalk (ctx job k sweep : Nat) (late : Bool)
  /-- R458: Expiry of a task's pause limit, which resumes the task and logs the event. -/
  | pauseLimit (task : Nat)
  /-- R428: Expiry of GROUP_IDLE_DELAY, which starts stopping a cluster group's clock. -/
  | groupIdleDelay (g : Nat)
  /-- R428: Expiry of DIE_IDLE_DELAY, which starts stopping a compute die's PLL. -/
  | dieIdleDelay (d : Nat)
  /-- R432: Passing of a clock domain's start time, which makes it RUNNING. -/
  | clockStartComplete (pll : Bool) (i : Nat)
  /-- R432: Quiescing of a clock domain, which makes it OFF or starts a queued start. -/
  | clockStopComplete (pll : Bool) (i : Nat)
  /-- R431: A 10 µs clock comparison finding a deviation over 2% or a stopped clock, which fences the die. -/
  | clockLoss (u : Nat)
  /-- R473: Expiry of 50 µs with no answer to sideband polls, which fences the die. -/
  | dieSilence (u : Nat)
  /-- R482: End of the crash dump collection, after which the reset proceeds and the dump is written to a slot or discarded. -/
  | crashDump (type index : Nat) (silent : List Nat)
  /-- R474: End of a reset die's rejoin steps, which admits it and forms suspects, or counts a failure and retries or marks it LOST. -/
  | rejoin (type index : Nat) (pass : Bool) (desc : Nat) (runs : List LinkRun) (retried : Nat) (repairs : List HbmRow)
  /-- R477: Expiry of the IOD watchdog or poll limit, which resets the package and collects the dump. -/
  | iodLoss
  /-- R468: Start of the replay of the next suspect context once its dispatched commands have completed. -/
  | suspectReplay (envs : List Env)
  /-- R497: End of the signing of an attestation report, which places it at the seat's ATTEST_REPORT. -/
  | signingComplete (seat : Nat)
  /-- R493: End of the COMMIT checks, which sets IMAGE_CONTROL to VERIFIED or FAILED. -/
  | imageChecksEnd (nvsBad : Bool)
  /-- R436: Release of RESET_N with the always-on feed in range, which runs the boot ROM and brings the package to S0. -/
  | suppliesGood (rails : Nat) (nvsBad : Bool)
  /-- R515: Assertion of RESET_N for 1 ms or longer, which resets the package. -/
  | resetN
  /-- R437: The S0 conditions all holding, which leaves S0 and begins the assembly of S1. -/
  | s1Entry
  /-- R232: End of HBM stack training, which holds S1 on failure or continues with the wipe. -/
  | hbmTrainingDone (trained : List (Nat × Nat))
  /-- R440: End of the S1 self-test, which sets STAGE to S2 and trains the host port in FULL. -/
  | s1End (failed : List Nat)
  /-- R439: Expiry of 3.5 s in S1, which holds the package with reason 0x0B. -/
  | s1Timeout
  /-- R419: VAO_MAIN falling below 94% for 200 ns, which moves the always-on loads to VAO_BACK. -/
  | switchover
  /-- R419: VAO_MAIN staying above 97% for 10 ms, which returns the switch to VAO_MAIN. -/
  | vaoMainRestored
  /-- R420: A main rail leaving its range, which enters retention in S2 or holds the package in S1. -/
  | mainRailOutOfRange (rail : Nat)
  /-- R264: End of the dirty-line write-back at retention entry, which puts the stacks in self-refresh and powers down the dies. -/
  | writeBackComplete
  /-- R425: VAO_MAIN, the main rails and THERMTRIP_N all permitting, which starts the return that resets the dies and keeps HBM. -/
  | returnFromRetention
  /-- R514: The reference clock going absent or out of tolerance, or coming back, which updates REF_CLOCK_STATE. -/
  | refClockEvent (state : Nat)
  /-- R518: Expiry of the 1 ms interval, which reads each die's temperature and raises alerts, throttling or a trip. -/
  | dieTempSample (temps : List Int)
  /-- R519: Every die and stack falling below 85 °C, which releases THERMTRIP_N. -/
  | thermtripRelease
  /-- R519: Expiry of 10 ms after a trip with the main rails still in range, which holds the dies in reset. -/
  | tripRailsKept
  /-- R512: Assertion of PMB_ALERT_N, which reads the regulator and treats a rail out of range under R420. -/
  | pmbAlert (rail : Nat) (out : Bool)
  /-- R513: End of a 10 ms power window, which reports PACKAGE_POWER and blocks cluster-group starts when over the limit. -/
  | powerWindow (mw : Nat)
  /-- R517: An engine's laser input falling below +18 dBm, which fails its lanes and takes the port or host link down. -/
  | laserLow (e : Nat)
  /-- R179: End of the copy of a staged slab to its home locations, which makes the HOME record durable, writes the digest entry, frees the staging slot and lets the next slab, the weight sweep or JOB_DONE follow. -/
  | slabHome (h : Nat)
  /-- R419: Loss of both always-on feeds, which takes all power from the package and leaves only what the NVS holds for the next cold start. -/
  | powerLoss
  /-- R517: Return of an engine's laser input to +18 dBm or more, after which the engine's lanes train at once and OE_STATUS bit 0 clears. -/
  | laserRestored (e : Nat)
  /-- R435: End of the exit from deep idle, with dies powered and wiped and stacks out of self-refresh, which sets POWER_STATE to IDLE and lets a waiting LOAD proceed. -/
  | deepIdleExitComplete
  /-- R439: Expiry of 1 ms without PLL lock of a die in S1, which holds the package with reason 0x09 or makes a compute die LOST. -/
  | pllLockTimeout (u : Nat)
  /-- R438: End of a die's power-on self-test in S1, after which its link trains, or which makes a compute die LOST or holds the package with reason 0x0A. -/
  | dieSelfTestDone (u : Nat) (r : SelfTest)
  /-- R36: End of step 5 of the assembly, with the optical engines powered, their rings tuned and their descriptors read, after which the open site is discovered. -/
  | opticalEnginesTuned (bad : List Nat)
  /-- R43: End of the open-site sideband detection and link training in step 6, which admits the die and builds its descriptor, or reports the site ABSENT or LOST. -/
  | openSiteDiscovery (partner streaming : Bool) (width rate ident : Nat)
  /-- R523: An IEEE 1149.1 instruction on TCK, TMS and TDI, which the test access port executes, or treats as BYPASS outside MANUFACTURE or when EXTEST meets a released RESET_N. -/
  | testAccessPort (code : Nat)
  deriving DecidableEq, Repr

end Sys2Proof
end

