-- ==== Sys2Proof/Machine/State.lean ====
section
/-! DEFINITION. The state of the block as plain data, and its value at reset. -/

namespace Sys2Proof.Machine

/-- The completion status codes of R12. -/
inductive Status where
  | done | doneWithHoles | deferred | refusedCapacity | refusedNotResident | timeout | dieLost | replayedClean
  | replayedGuilty | memUncorrectable | descriptorInvalid | illegalInstruction | sampleOversize | sampleTruncated
  | sampleCorrupt | sampleLate | tableWait | expanderStall | seatContested | seatBusy | diverged | driftRepaired
  deriving DecidableEq, Repr

/-- Where the completions of one command go (R14, R349): the COMPLETION stream, the list's tag, the entry's tag and
index, the model, and whether the list ran as a member of a group. -/
structure Addr where
  stream : Nat
  listTag : Nat
  tag : Nat
  entry : Nat
  model : Nat
  merged : Bool
  deriving DecidableEq, Repr

/-- One completion sent. -/
structure CompRec where
  addr : Addr
  status : Status
  ctx : Nat
  detail : Nat
  row : List Byte
  time : Nat
  deriving DecidableEq, Repr

/-- The states of a context (0x4000 CTX_STATE, R329). -/
inductive CtxPhase where
  | free | loading | ready | stopping
  deriving DecidableEq, Repr

/-- One of the 64 contexts: its model, the record in force, the ranges of R306 and the tables of R102. -/
structure Ctx where
  phase : CtxPhase
  model : Nat
  record : Nat
  partBase : Nat
  partSize : Nat
  cacheBase : Nat
  cacheUnits : Nat
  poolBase : Nat
  poolSize : Nat
  tensors : List (Nat × Nat)
  coresets : List (Nat × Nat)
  lastUse : Nat
  /-- a command of it met a full lost-line list (R254): the next that accesses HBM completes MEM_UNCORRECTABLE -/
  lostPending : Bool
  deriving DecidableEq, Repr

/-- A FREE context. -/
def noCtx : Ctx :=
  { phase := .free, model := 0, record := 0, partBase := 0, partSize := 0, cacheBase := 0, cacheUnits := 0,
    poolBase := 0, poolSize := 0, tensors := [], coresets := [], lastUse := 0, lostPending := false }

/-- One arrival at a barrier channel: the core, the command in flight it belongs to, REDOP and the operand. -/
structure Arrival where
  core : Nat
  flight : Nat
  redop : Nat
  operand : Nat
  dst : Nat
  deriving DecidableEq, Repr

/-- What the cores hold. Keys: a core's slot is `core * 8 + slot`. -/
structure Cores where
  /-- scalar registers sr2-sr31 (R77, R104), keyed `(core * 8 + slot) * 32 + r` -/
  regs : List (Nat × Nat) := []
  /-- program counters of the slots (R77): the commands begun since the context was bound, which is what the model takes one to
  count (DESIGN CHOICE, log 85: the spec names the counter only) -/
  pcs : List (Nat × Nat) := []
  /-- row and column predicate masks of the slots (R77, R112), keyed by slot, row mask in bits 31:0 -/
  masks : List (Nat × Nat) := []
  /-- the accumulator file (R76, R85), keyed `(core * 2 + bank) * 1024 + entry`: 96-bit entries -/
  accs : List (Nat × Nat) := []
  /-- slot of the matrix unit's previous operation, plus 1; 0 when none since reset (R83) -/
  lastSlot : List (Nat × Nat) := []
  /-- rotating pointers of R91 and R92, keyed `resource * 2^20 + unit`; the unit of a pool bank is `cluster * 32 + bank` -/
  ptrs : List (Nat × Nat) := []
  /-- the 64 barrier channels (R96): the arrivals so far -/
  barriers : List (Nat × List Arrival) := []
  deriving DecidableEq, Repr

/-- The engine that holds a command (R315, R462). -/
inductive Engine where
  | cores | planer | codec | intake | fabric
  deriving DecidableEq, Repr

/-- One address stream of a slot's Jig (R77): the tensor it walks, the run-time extents read, and the element it has reached. -/
structure JigWalk where
  tensor : Nat
  exts : List Nat
  at_ : Nat
  deriving DecidableEq, Repr

/-- What a command that a core does not finish holds of the core: an accumulator bank (R85) and the walk state (R77). -/
structure CoreHold where
  core : Nat
  bank : Option Nat
  jig : List JigWalk
  deriving DecidableEq, Repr

/-- Who starts a command that is in flight, beside a dispatch: nobody, or the replay of a suspect (R468). -/
inductive FlightKind where
  | normal | replay
  deriving DecidableEq, Repr

/-- A command dispatched and without its final completion: it waits (a barrier, a table slot, an engine, the
partner) or does not finish (R462). `cores` lists the cores that have not finished; `data` is the engine's own progress. -/
structure Flight where
  id : Nat
  engine : Engine
  kind : FlightKind
  ctx : Nat
  addrs : List Addr
  hdr : Nat
  desc : Desc
  /-- the list it came from, by its identifier; 0 when none -/
  list : Nat
  cores : List Nat
  /-- statuses gathered so far -/
  found : List Status
  /-- its abort has been asked for (R462) -/
  aborting : Bool
  since : Nat
  /-- what it holds of the cores that have not finished it -/
  holds : List CoreHold := []
  deriving DecidableEq, Repr

/-! ## Lists, loads and replays (chapter 10, R467-R469) -/

/-- One member of a list: an ordinary list has one, a merge group up to 32 (R324). -/
structure Member where
  stream : Nat
  tag : Nat
  hdrs : List Nat
  row : List Byte
  acceptedAt : Nat
  deriving DecidableEq, Repr

/-- Where a list stands: in an open group, waiting for its model's load, queued, dispatching, or wholly dispatched. -/
inductive ListPhase where
  | grouping | awaitLoad | queued | dispatching | dispatched
  deriving DecidableEq, Repr

/-- A command list accepted (R314), or a merge group under its opener (R325). `next` is the entry to dispatch next. -/
structure CList where
  id : Nat
  model : Nat
  hdr : Nat
  entries : List (Nat × Desc)
  members : List Member
  phase : ListPhase
  next : Nat
  queuedAt : Nat
  admittedAt : Nat
  /-- the entries that a frozen layer skipped when they were dispatched (R146, R147) -/
  skipped : List Nat := []
  deriving DecidableEq, Repr

/-- One LOAD in the load queue (R307). -/
structure Load where
  model : Nat
  cls : Nat
  at_ : Nat
  deriving DecidableEq, Repr

/-- A command interrupted by a reset, awaiting its replay (R467): its context, list, entry and completion addresses, and
the reset domain (type and index as in RESET_REQUEST). -/
structure Interrupted where
  /-- the identifier it had in flight -/
  flight : Nat
  ctx : Nat
  list : Nat
  addrs : List Addr
  hdr : Nat
  desc : Desc
  domType : Nat
  domIndex : Nat
  deriving DecidableEq, Repr

/-- Contexts, lists, loads, commands in flight and completions. -/
structure Sched where
  ctxs : List Ctx := []
  lists : List CList := []
  loads : List Load := []
  nextId : Nat := 1
  flights : List Flight := []
  comps : List CompRec := []
  /-- dispatch times in ns of the last 16 lists, by model (R320) -/
  dispTimes : List (Nat × List Nat) := []
  /-- interrupted commands whose domain has not rejoined yet -/
  interrupted : List Interrupted := []
  /-- interrupted commands of suspects, awaiting replay (R467) -/
  suspects : List Interrupted := []
  /-- statuses that the entries of the running replay have ended with (R469) -/
  replayFound : List Status := []
  /-- partitions that a failed wipe leaves unassignable (R262): base and size -/
  badRanges : List (Nat × Nat) := []
  /-- models whose victims' stops a load waits for (R307) -/
  evicting : List Nat := []
  deriving DecidableEq, Repr

/-! ## The memory system (chapter 08) -/

/-- One memory-side cache line (R237-R241, R249): its linear address, the context, dirty, pinned, prefetched and not yet
used; `stamp` orders the ways of a set by use, `way` is its place in the set, `bad` lists its 64-bit words (0-7) that are
uncorrectable. -/
structure CacheLine where
  line : Nat
  ctx : Nat
  dirty : Bool
  pinned : Bool
  pref : Bool
  stamp : Nat
  way : Nat
  bad : List Nat
  deriving DecidableEq, Repr

/-- One stream tracker (R241-R244): its stack and its context. A learned one has the latest demand line, the difference it
follows, and the demands since it was last hit; a declared one the command that declared it, the lines of the walk that fall in
the stack, in order, and how many of them the demands have reached. -/
structure Tracker where
  stack : Nat
  ctx : Nat
  learned : Bool
  last : Nat
  stride : Int
  idle : Nat
  stamp : Nat
  owner : Nat
  walk : List Nat
  pos : Nat
  deriving DecidableEq, Repr

/-- The latest demand misses of one context in one stack, for learning (R243), newest first. -/
structure MissHist where
  stack : Nat
  ctx : Nat
  lines : List Nat
  deriving DecidableEq, Repr

/-- A running traffic generator (R260): the channel's subindex, its configuration, and whether it writes outside the test
rows. -/
structure Tgen where
  sub : Nat
  cfg : Nat
  outside : Bool
  stopped : Bool
  deriving DecidableEq, Repr

structure MemSys where
  lines : List CacheLine := []
  trackers : List Tracker := []
  misses : List MissHist := []
  clock : Nat := 0
  /-- lost-line lists (R254): linear address of the line and owning context, for both memory-side dies -/
  lost : List (Nat × Nat) := []
  tgens : List Tgen := []
  /-- refreshes performed (R231) -/
  refreshes : Nat := 0
  /-- channels whose generator wrote rows outside the test rows that are not wiped yet (R260) -/
  pendingWipe : List Nat := []
  deriving DecidableEq, Repr

/-! ## The host port and Raorn (chapter 11) -/

/-- A packet sent and not acknowledged (R345): its SEQ, its payload, whether it is the CLOSE, how often and when it was
sent, whether it was resent after a SACK, and whether SACK covers it. -/
structure TxPkt where
  seq : Nat
  payload : List Byte
  close : Bool
  sends : Nat
  sentAt : Nat
  resent : Bool
  sacked : Bool
  deriving DecidableEq, Repr

/-- The states of a stream (R342). -/
inductive SPhase where
  | closed | opened | stopping | pendingStart
  deriving DecidableEq, Repr

/-- An OPEN as received (R341). -/
structure OpenReq where
  seq : Nat
  kind : Nat
  cls : Nat
  comp : Nat
  deriving DecidableEq, Repr

/-- The sending half of a stream (R345, R347): the congestion window and its threshold in 1/65,536 packet, the round-trip
estimate in ns times 1,000, the RTTs measured with their times, and the SEQ that ends the round trip of a congestion
signal. -/
structure StrmTx where
  bytes : List Byte := []
  nextSeq : Nat := 0
  unacked : List TxPkt := []
  cwnd : Nat := 0
  ssthresh : Nat := 2 ^ 48
  srtt : Option Nat := none
  rttvar : Nat := 0
  backoff : Nat := 0
  rtts : List (Nat × Nat) := []
  recover : Option Nat := none
  peerWindow : Nat := 0
  retransmits : Nat := 0
  /-- SEQs of the packets to be sent again (R345, R348) -/
  again : List Nat := []
  deriving DecidableEq, Repr

/-- One Raorn stream (R340-R347). `rxTotal` counts the bytes delivered in order, `rxLimit` those the advertised window
admits; `closeAt` is the SEQ of the host's CLOSE, `sentClose` the device's own. -/
structure Strm where
  phase : SPhase := .closed
  req : OpenReq := { seq := 0, kind := 0, cls := 0, comp := 0 }
  addr : Nat := 0
  port : Nat := 0
  devIsn : Nat := 0
  queuedOpen : Option OpenReq := none
  /-- the window, in bytes, and the TS of the queued OPEN (R343) -/
  queuedWin : Nat := 0
  queuedTs : Nat := 0
  rxNext : Nat := 0
  rxHeld : List (Nat × List Byte) := []
  rxBytes : List Byte := []
  rxTotal : Nat := 0
  rxLimit : Nat := 0
  ackDue : Bool := false
  ceSeen : Bool := false
  lastTs : Nat := 0
  closeAt : Option Nat := none
  closeIn : Bool := false
  sentClose : Bool := false
  wasReset : Bool := false
  tx : StrmTx := {}
  deriving DecidableEq, Repr

/-- Where a message goes: an Ethernet frame at the MAC, a Raorn packet of a stream, a Dovetail port, the PAIR role,
an open-site channel, a Tenon link, a sideband pin. -/
inductive Dest where
  | frame | raorn (stream : Nat) | dv (port : Nat) | pair | coll (role : Nat) | site (ch : Nat) | tenon (link : Nat) | pin (n : Nat)
  deriving DecidableEq, Repr

/-- Bytes sent. -/
structure Sent where
  dest : Dest
  bytes : List Byte
  deriving DecidableEq, Repr

structure Net where
  streams : List (Nat × Strm) := []
  /-- remaining pause of each priority, in quanta, 0 when not paused (R337) -/
  paused : List (Nat × Nat) := []
  /-- frames that a paused priority holds back, with the priority, oldest first (R337) -/
  held : List (Nat × List Byte) := []
  /-- XOFF in force towards the host (R337) -/
  xoff : Bool := false
  linkUp : Bool := false
  /-- the training under way is for FULL (R332) -/
  wantFull : Bool := false
  /-- IPv6 packets that wait for a neighbour's MAC address: address, PCP, packet -/
  waiting : List (Nat × Nat × List Byte) := []
  /-- neighbours resolved: IPv6 address and MAC (R335) -/
  neigh : List (Nat × Nat) := []
  soliciting : List Nat := []
  /-- the address in force (R336, R353): the object's value at the latest OPEN -/
  addrInForce : Nat := 0
  portInForce : Nat := 49488
  txPtr : Nat := 0
  /-- the pointer of R398 among the streams whose requests one cycle brings -/
  mgmtPtr : Nat := 0
  wire : List Sent := []
  /-- host bytes received in the last 10 ms, with the time of each packet (R320) -/
  rxLog : List (Nat × Nat) := []
  deriving DecidableEq, Repr

/-! ## Seats (chapter 13) -/

structure Seat where
  bound : Bool := false
  stream : Nat := 0
  port : Nat := 0
  addr : Nat := 0
  label : List Byte := []
  lastAt : Nat := 0
  /-- SEAT_IDLE_LIMIT in ms as its latest request found it (R407, R415) -/
  limit : Nat := 0
  deriving DecidableEq, Repr

/-! ## The package: dies, Tenon links, feeds, clocks (chapters 01, 14, 16, 18) -/

/-- One open-site channel (R45-R49): the SEQ expected in and the next one out, credits in 256-byte units that the die may
still use and that are owed to it, those the die has granted, the bytes of the open sample, and the bytes that wait for the
die's credits. -/
structure SiteCh where
  seq : Option Nat := none
  outSeq : Nat := 0
  inCredits : Nat := 0
  owed : Nat := 0
  outCredits : Nat := 0
  outBytes : List Byte := []
  sample : List Byte := []
  opened : Bool := false
  deriving DecidableEq, Repr

/-- One domain whose reset is under way (R461, R473): type and index as in RESET_REQUEST, its cause, the step it has reached
(0 fenced and collecting the dump, 1 held or rejoining). -/
structure Reset where
  domType : Nat
  domIndex : Nat
  cause : Nat
  step : Nat
  logSeq : Nat
  deriving DecidableEq, Repr

/-- One direction of a Tenon link: the sequence number of the flit that its receiving end expects (R22). -/
structure TenonDir where
  rxSeq : Nat := 0
  deriving DecidableEq, Repr

/-- One Tenon link beside its objects (R22, R25): its two directions, from the end named first in R20 and back, the width
that it runs at while it is WAITING, whether a re-equalisation was tried since the retry rate was exceeded, and the
re-equalisations that wait for a training to end (R450). -/
structure Tenon where
  ab : TenonDir := {}
  ba : TenonDir := {}
  width : Nat := 0
  eqDone : Bool := false
  eqWait : Nat := 0
  deriving DecidableEq, Repr

/-- The traffic from one die to another (R22, R26): the intermediate die of the path that its flits are on, the flits sent and
not acknowledged on the first link (link, direction, sequence number), those that the intermediate die has and the
destination has not, and the flits delivered, oldest first. -/
structure TenonPath where
  via : Option Nat := none
  unacked : List (Nat × Bool × Nat) := []
  transit : Nat := 0
  delivered : List (List Byte) := []
  deriving DecidableEq, Repr

structure Pkg where
  /-- the fused descriptors of the 15 units in the order of R31 (R30), as the dies hold them -/
  fuses : List Nat := []
  links : List (Nat × Tenon) := []
  /-- the traffic between the dies that a link joins, keyed source × 16 + destination (R26) -/
  paths : List (Nat × TenonPath) := []
  site : List (Nat × SiteCh) := []
  /-- `booted`: the boot ROM has run since the always-on feed came; `resetHeld`: RESET_N is asserted -/
  booted : Bool := false
  resetHeld : Bool := true
  trip : Bool := false
  /-- retention entry: the write-back of R264 is complete -/
  wroteBack : Bool := false
  railLost : Bool := false
  /-- retention was entered from S1 (R420) -/
  fromS1 : Bool := false
  resets : List Reset := []
  /-- rejoin failures: domain type, index, Pavane cycle (R474) -/
  failures : List (Nat × Nat × Nat) := []
  /-- compute dies that issue in every second cycle (R518) -/
  throttled : List Nat := []
  powerBlocked : Bool := false
  /-- cluster groups whose start waits for their die's PLL, in order of request (R429, R432) -/
  wakeWait : List Nat := []
  /-- DEEP_IDLE's exit is under way (R435) -/
  exiting : Bool := false
  powerWindows : Nat := 0
  /-- the instruction in force at the test access port (R523): 0 BYPASS, 1 IDCODE, 2 SAMPLE/PRELOAD, 3 EXTEST -/
  jtag : Nat := 0
  /-- the cause of the latest package reset, logged at the next S0 (R480) -/
  cause : Option Nat := none
  /-- conditions that hold the package in S1 (R38-R40): unit (15 for none), code, bit -/
  conds : List (Nat × Nat × Nat) := []
  /-- the IOD's own descriptor fails its CRC32 on three consecutive reads in this assembly (R37) -/
  iodDescBad : Bool := false
  /-- the open-site identity block (R43) -/
  ident : Nat := 0
  /-- a switch-over whose log entry waits for RETENTION_RESULT (R480) -/
  switchLog : Bool := false
  /-- THERM_ALERT_N is asserted (R518) -/
  alert : Bool := false
  /-- flights that retention cut off, which complete with DIE_LOST when S2 is restored (R423) -/
  afterRetention : List Nat := []
  deriving DecidableEq, Repr

/-! ## The fault log and the crash dumps (R479-R484) -/

structure LogEntry where
  seq : Nat
  kind : Nat
  bytes : List Byte
  deriving DecidableEq, Repr

structure Dump where
  seq : Nat
  domType : Nat
  domIndex : Nat
  cause : Nat
  bytes : List Byte
  deriving DecidableEq, Repr

structure FaultLog where
  seq : Nat := 0
  buf : List LogEntry := []
  ring : List LogEntry := []
  dumpSeq : Nat := 0
  slots : List (Option Dump) := [none, none, none, none]
  deriving DecidableEq, Repr

/-! ## The Dovetail fabric and the pair (chapter 12) -/

/-- A Dovetail flit without its sequence number and acknowledgement (R359). -/
structure Flit where
  vc : Nat
  type : Nat
  msgSeq : Nat
  payload : List Byte
  /-- the role whose traffic it carries (R365, R366) -/
  role : Nat := 0
  deriving DecidableEq, Repr

/-- One Dovetail port (R356-R365). PORT_STATE and PORT_ROLE are objects. -/
structure DvPort where
  txSeq : Nat := 0
  rxSeq : Nat := 0
  /-- replay buffer: SEQ and flit, oldest first (R360) -/
  unacked : List (Nat × Flit) := []
  replays : Nat := 0
  nakSent : Bool := false
  sinceAck : Nat := 0
  credCtl : Nat := 0
  credBulk : Nat := 0
  /-- credits to return, CONTROL and BULK -/
  owedCtl : Nat := 0
  owedBulk : Nat := 0
  /-- flits waiting for credits or buffer space, oldest first -/
  waitCtl : List Flit := []
  waitBulk : List Flit := []
  /-- BULK messages not wholly acknowledged, oldest first, each with its role (R365) -/
  bulkHeld : List (Nat × List Byte) := []
  /-- the message being assembled on each VC, with its MSG_SEQ -/
  asmCtl : Option (Nat × List Byte) := none
  asmBulk : Option (List Byte) := none
  eqDone : Bool := false
  bulkRun : Nat := 0
  /-- while the port stops: the role that its traffic belongs to (R358) -/
  role : Nat := 0
  deriving DecidableEq, Repr

/-- CONTROL traffic of one role (R365): the next MSG_SEQ out and in, and the messages not wholly acknowledged. -/
structure RoleCtl where
  outSeq : Nat := 0
  inSeq : Nat := 0
  held : List (Nat × List Byte) := []
  /-- messages received whole before an earlier one -/
  ahead : List (Nat × List Byte) := []
  deriving DecidableEq, Repr

/-- A collective's message that waits for its collective, or for the agreed scales of its blocks (R371, R372). -/
structure CollMsg where
  role : Nat
  type : Nat
  flags : Nat
  index : Nat
  id : Nat
  offset : Nat
  body : List Byte
  deriving DecidableEq, Repr

/-- The running collective (R369-R377): its flight, its operation and topology, the source bytes and block scales read
at its start, the scales reduced so far, those agreed (256 when not known), the sums, the segments received and finished,
and its statuses once it has ended. -/
structure Coll where
  flight : Nat
  ctx : Nat
  id : Nat
  op : Nat
  kind : Nat
  size : Nat
  rank : Nat
  root : Nat
  n : Nat
  head : List Byte
  src : List Nat
  scales : List Nat
  expAcc : List Nat
  agreed : List Nat
  sumAcc : List Nat
  /-- segments received: type, role, chunk, offset; and, with type 0 and 1, segments summed and data bytes in place -/
  got : List (List Nat)
  ended : Option (List Status)
  /-- the uncorrectable locations and sources that the command has logged (R251) -/
  seen : List (Nat × Nat) := []
  deriving DecidableEq, Repr

/-- A mirrored write waiting (R386): sequence number, index, subindex, value, and the seat's stream and tag, if any. -/
structure Mirror where
  seq : Nat
  index : Nat
  sub : Nat
  value : List Byte
  stream : Option Nat
  tag : Nat
  /-- MSG_SEQ of its MIRROR_APPLY, on member 0 -/
  msg : Option Nat
  deriving DecidableEq, Repr

/-- The pair (R380-R388); PAIR_STATE, PAIR_CONTROL, PARTNER_SERIAL and MEMBER are objects. -/
structure Pair where
  fromSolo : Bool := false
  /-- the partner's PAIR_HELLO, kept until this device forms: serial, measurement, PAIR_CONTROL, contexts in use -/
  hello : Option (List Nat) := none
  former : Option Nat := none
  nextMirror : Nat := 0
  appliedMirror : Nat := 0
  mirrorQ : List Mirror := []
  heartbeats : Nat := 0
  /-- claims of both sides not yet compared (R387): stream, first sample, N, mask CRC -/
  localClaims : List (List Nat) := []
  partnerClaims : List (List Nat) := []
  /-- refill: the donor has sent it, and the segments (context, offset) that failed their CRC once -/
  sent : Bool := false
  refillFailed : List (Nat × Nat) := []
  /-- the donor's running intake streams, which the receiver starts at the end -/
  refillStreams : List Nat := []
  deriving DecidableEq, Repr

structure Fabric where
  ports : List DvPort := List.replicate 6 {}
  roles : List (Nat × RoleCtl) := []
  inbox : List (Nat × Nat × List Byte) := []
  coll : Option Coll := none
  /-- segments that arrived before their collective started (R371), or before their scales were agreed -/
  early : List CollMsg := []
  pair : Pair := {}
  deriving DecidableEq, Repr

/-! ## The Planer (chapter 06) -/

/-- The phase of a Planer job (0x4330, R183): a PACK, waiting for the partner's JOB_START, the two sweeps with the
orthogonalisation between them, the halt of R193, and retention (R185). -/
inductive JobPhase where
  | pack | awaitPartner | moments | ortho | weights | halted | retained
  deriving DecidableEq, Repr

/-- The job the Planer runs (R170-R185): its flight, its descriptor, CTX_STEP and the coefficients at its start,
and for each half the next slab to stage and the next slab expected home (UPDATE); what the silicon does to its first borrowed pass
(R174). -/
structure Job where
  flight : Nat
  ctx : Nat
  desc : Desc
  step : Nat
  coef : List Nat
  phase : JobPhase
  next : List Nat
  home : List Nat
  /-- statuses gathered: DIVERGED and the faults of its reads -/
  found : List Status
  env : Env := {}
  deriving DecidableEq, Repr

/-- A slab in a staging slot (R179), whose bytes stand in the reserved rows: its number, the checksum recorded, whether
it may go home, whether it is awaited from the partner (R186), and the outcome of its arbitration (R191). -/
structure Staged where
  k : Nat
  sum : Nat
  agreed : Bool
  unpaired : Bool
  fetch : Bool
  code : Option Nat
  deriving DecidableEq, Repr

/-- Arbitration of one slab on one half (R191): the partner's first checksum, this device's recomputed, gradient and
old-home checksums, the partner's RECHECK, the two self-checks, the outcome whose SLAB_XFER is awaited, and whether the
old state has been repaired once (order 4). -/
structure Arbit where
  k : Nat
  partnerSum : Nat
  own : List Nat
  partner : Option (List Nat)
  ownKat : Option Bool
  partnerKat : Option Bool
  await : Option Nat
  second : Bool
  deriving DecidableEq, Repr

/-- One Planer half: its staging slots (R179), its journal sequence and buffer (R181, R182), its arbitration, the
partner's AGREE records not matched yet. -/
structure Half where
  staged : List Staged := []
  seq : Nat := 0
  buffer : List Nat := []
  arbit : Option Arbit := none
  agrees : List Nat := []
  /-- the half waits for a staging slot since this time (R190) -/
  stalled : Option Nat := none
  deriving DecidableEq, Repr

/-- A slab by context, job number, slab number and sweep (0 moments, 1 weights) (R196-R198). -/
structure SlabId where
  ctx : Nat
  job : Nat
  k : Nat
  sweep : Nat
  deriving DecidableEq, Repr

structure Planer where
  /-- flights waiting, in order of arrival (R164), each with what the silicon does to its job -/
  queue : List (Nat × Env) := []
  /-- flights dispatched while their layer was frozen (R167) -/
  frozen : List Nat := []
  job : Option Job := none
  halves : List Half := [{}, {}]
  /-- the NVS journal rings of both halves (R181) as 256-bit records, oldest first, and how many of them are void (R186) -/
  ring : List Nat := []
  void : Nat := 0
  /-- descriptors of the jobs that have completed at least once, by context and job number (R196) -/
  known : List (Nat × Nat × Desc) := []
  drifted : List SlabId := []
  repairing : List SlabId := []
  /-- jobs whose next final completion carries DRIFT_REPAIRED (R197): context and job number -/
  repaired : List (Nat × Nat) := []
  partnerStart : Option (List Byte) := none
  /-- jobs stopped, which later ones resume with the coefficients they began with (R171, R185) -/
  stopped : List Job := []
  deriving DecidableEq, Repr

/-! ## The codec (chapter 07) -/

/-- The states of a table slot (R217). -/
inductive SlotPhase where
  | free | loading | active | retiring
  deriving DecidableEq, Repr

/-- One table slot (R217): its generation and its table image. -/
structure TableSlot where
  phase : SlotPhase := .free
  gen : Nat := 0
  image : List Byte := []
  deriving DecidableEq, Repr

/-- A core's request for an engine (R226): the flight, the core and its position in the core set. -/
structure EngineReq where
  flight : Nat
  core : Nat
  pos : Nat
  deriving DecidableEq, Repr

structure Codec where
  slots : List TableSlot := [{}, {}, {}, {}]
  /-- references: flight and slot (R221) -/
  refs : List (Nat × Nat) := []
  /-- flights of the LOADs in TABLE_WAIT (R219) -/
  waiting : List Nat := []
  /-- requests for a squeezer and for an expander engine, in arrival order (R226) -/
  waitSq : List EngineReq := []
  waitEx : List EngineReq := []
  /-- flights whose stream fault is counted (R216) -/
  faulted : List Nat := []
  /-- the pointer of R91 for slots (R223) -/
  ptr : Nat := 0
  deriving DecidableEq, Repr

/-! ## The intake (chapter 09) -/

/-- One sample that has arrived (R272): its number (for VIDEO, that of its access unit), its header, its data, and
whether the open site closed it before LENGTH bytes. -/
structure Sample where
  n : Nat
  hdr : Nat
  data : List Byte
  early : Bool
  /-- it came over an open-site channel (R46) -/
  site : Bool := false
  deriving DecidableEq, Repr

/-- One intake stream (R267-R273) beside its objects: KIND in force, the two cursors, the samples held, the numbers
claimed by a BATCH that timed out and still to be discarded, and the samples whose ROI map is awaited (R293). -/
structure IStream where
  kind : Nat := 0
  arrived : Nat := 0
  claim : Nat := 0
  samples : List Sample := []
  dead : List (Nat × Nat) := []
  roiWait : List Nat := []
  /-- VIDEO: access units before this position were decoded before a retention entry, so that no later frame can
  reference them (R423) -/
  lostAt : Nat := 0
  /-- VIDEO: access units that have been through the decoder and are counted (R285) -/
  decoded : Nat := 0
  deriving DecidableEq, Repr

/-- The outcome of one claimed sample (R297, R298). -/
structure Outcome where
  slot : Nat
  status : Nat
  reason : Nat
  roi : Nat
  count : Nat
  deriving DecidableEq, Repr

/-- A BATCH in flight (R296): its flight, its stream, the first number claimed, N, and the slots resolved. -/
structure Batch where
  flight : Nat
  stream : Nat
  first : Nat
  n : Nat
  outs : List Outcome
  deriving DecidableEq, Repr

/-- A tokenizer dictionary slot (R277, R278). -/
structure DictSlot where
  loaded : Bool := false
  ctx : Nat := 0
  entries : Nat := 0
  image : Nat := 0
  deriving DecidableEq, Repr

structure Intake where
  streams : List (Nat × IStream) := []
  batches : List Batch := []
  dicts : List DictSlot := [{}, {}, {}, {}]
  deriving DecidableEq, Repr

/-! ## Security (chapter 17) -/

/-- A life-cycle record of the NVS (R503). -/
structure LcRecord where
  state : Nat
  count : Nat
  deriving DecidableEq, Repr

structure Sec where
  /-- fuses of R488: the hash and the secret as numbers, the thermometer codes as counts of blown bits -/
  keyHash : Nat := 0
  secret : Nat := 0
  svnFloor : Nat := 0
  lcCount : Nat := 0
  decom : Bool := false
  /-- the stored image of the NVS (R489), by byte offset; unlisted bytes read 0 -/
  image : List Host.Cell := []
  /-- an NVS read of the image is uncorrectable (R490, check 2) -/
  imageBad : Bool := false
  /-- bytes 0-2,015 of the running image, and D -/
  running : List Byte := []
  measure : List Byte := []
  /-- the sealed identity private key (R495) -/
  key : Option Nat := none
  records : List LcRecord := [⟨0, 0⟩, ⟨0, 0⟩]
  /-- bytes 0-303 of the report being signed, for each seat (R497) -/
  signing : List (Option (List Byte)) := [none, none]
  /-- the target of a transition whose record stands in the NVS and whose fuses are not blown yet (R503) -/
  blow : Option Nat := none
  /-- an erasure of R504 to complete before step 1 of R36 -/
  erase : Option Nat := none
  deriving DecidableEq, Repr

/-! ## The state of the block -/

/-- The background tasks (chapter 15), beside their objects. -/
structure Bg where
  recSeq : Nat := 0
  evSeq : Nat := 0
  /-- TELEMETRY streams whose next record carries MISSED (R456) -/
  missed : List Nat := []
  /-- HBM_SCRUB: lines read in the pass by pseudo channel, the time at which it began in ns, and its period in s (R447) -/
  scrubAt : List (Nat × Nat) := []
  scrubFrom : Nat := 0
  scrubPeriod : Nat := 0
  /-- SRAM words read in the pass; slabs that the current DIGEST_WALK has read, and the key that its next slab does not precede -/
  sramWords : Nat := 0
  digestAt : Nat := 0
  digestNext : Nat := 0
  /-- tasks in a pause, with the Pavane cycle at which it began, plus 1; tasks after a pause: the cycle before which no new
  one may begin -/
  pausedAt : List (Nat × Nat) := []
  noPause : List (Nat × Nat) := []
  /-- channels waiting for a gap (R451), and the stack's temperature at the latest retraining of each -/
  retrainWait : List Nat := []
  retrainTemp : List (Nat × Int) := []
  /-- AVS (R453, R512): set points in mV where they are not nominal, those before the latest step, targets, and the rails
  stopped by a missing acknowledgement -/
  rails : List (Nat × Nat) := []
  acked : List (Nat × Nat) := []
  targets : List (Nat × Nat) := []
  stoppedRails : List Nat := []
  /-- heater settings of the engines (R452) -/
  heaters : List (Nat × Nat) := []
  /-- rows of HBM that a wipe has repaired, as the NVS lists them (R232, R262) -/
  repaired : List HbmRow := []
  /-- NVS block write counts, and blocks remapped (R454) -/
  wear : List (Nat × Nat) := []
  remap : List (Nat × Nat) := []
  deriving DecidableEq, Repr

structure State where
  /-- commands waiting, first in, first out -/
  pending : List Instr
  /-- Pavane cycles of 40 ns since the always-on feed came -/
  time : Nat
  /-- the model's own counter of the free values used (log 5) -/
  free : Nat
  /-- counters 0x8010-0x8040, by key index * 256 + subindex -/
  ctr : List (Nat × Nat)
  /-- every other object's value, XOR its default, by key -/
  obj : List (Nat × Nat)
  mem : List Host.Cell
  /-- units of 64 bytes of HBM and 8 bytes of SRAM with an uncorrectable error -/
  ue : List (Nat × Bool)
  cores : Cores
  sched : Sched
  memsys : MemSys
  net : Net
  seats : List Seat
  pkg : Pkg
  log : FaultLog
  fab : Fabric
  plan : Planer
  bg : Bg
  /-- contests of this Pavane cycle decided at their first request (R410): resource (a semaphore, or 256 and 257 for seats
  A and B), stream, and whether it won -/
  contests : List (Nat × Nat × Bool)
  codec : Codec
  intake : Intake
  sec : Sec
  deriving DecidableEq, Repr

/-- Why a step stops. No command of the table stops the block, so nothing raises it (safe). -/
inductive Fault where
  | stuck
  deriving DecidableEq, Repr

/-- Why a command has no meaning. -/
inductive Refusal where
  /-- raised by an arm of `exec` whose meaning is not written yet (safe) -/
  | notModelled (mnemonic : String)
  deriving DecidableEq, Repr

/-- The fuses of the package that the model stands for (R30, R32; log 9): CD rev B0, MD A1, IOD A2, serials and bins 0; the
open site is empty. -/
def resetFuses : List Nat :=
  [0xff0005010100104201, 0xff0005010100104211, 0xff0005010100104221, 0xff0005010100104231,
   0x1f0005010100114102, 0x1f0005010100114112, 0x1f0006010100124103,
   0x10000010100104104, 0x10000010100104114, 0x10000010100104124, 0x10000010100104134,
   0x10000010100104144, 0x10000010100104154, 0x10000010100104164, 0]

/-- The machine before its first SUPPLIES_GOOD: RESET_N is held, every object reads its default, nothing is stored. -/
def State.reset : State :=
  { pending := [], time := 0, free := 0, ctr := [], obj := [], mem := [], ue := [], cores := {},
    sched := { ctxs := List.replicate 64 noCtx }, memsys := {}, net := {}, seats := [{}, {}],
    pkg := { fuses := resetFuses }, log := {}, fab := {}, plan := {}, bg := {}, contests := [], codec := {},
    intake := {}, sec := {} }

end Sys2Proof.Machine
end

