-- ==== Sys2Proof/Machine/Flags.lean ====
section
/-! DEFINITION. The block has no arithmetic flags; what a command reports is a status code. The codes, which of them
mean valid results, and their order (R12, R16). -/

namespace Sys2Proof.Machine

def Status.code : Status → Nat
  | .done => 0x00 | .doneWithHoles => 0x01 | .deferred => 0x10 | .refusedCapacity => 0x11
  | .refusedNotResident => 0x12 | .timeout => 0x20 | .dieLost => 0x21 | .replayedClean => 0x22
  | .replayedGuilty => 0x23 | .memUncorrectable => 0x30 | .descriptorInvalid => 0x31
  | .illegalInstruction => 0x32 | .sampleOversize => 0x40 | .sampleTruncated => 0x41 | .sampleCorrupt => 0x42
  | .sampleLate => 0x43 | .tableWait => 0x50 | .expanderStall => 0x51 | .seatContested => 0x60 | .seatBusy => 0x61
  | .diverged => 0x70 | .driftRepaired => 0x71

/-- "Results valid" of R12, for final and replay completions. -/
def Status.valid : Status → Bool
  | .done | .doneWithHoles | .replayedClean | .expanderStall | .diverged | .driftRepaired => true
  | _ => false

/-- The place of a final status in the order of R16; codes outside that order come last. -/
def Status.rank : Status → Nat
  | .dieLost => 0 | .memUncorrectable => 1 | .illegalInstruction => 2 | .descriptorInvalid => 3 | .timeout => 4
  | .refusedCapacity => 5 | .refusedNotResident => 6 | .diverged => 7 | .driftRepaired => 8 | .doneWithHoles => 9
  | .expanderStall => 10 | .done => 11 | _ => 12

/-- The condition that stands first in the order of R16; DONE where there is none. -/
def firstStatus (l : List Status) : Status := l.foldl (fun a b => if b.rank < a.rank then b else a) .done

end Sys2Proof.Machine
end

