-- ==== Sys2Proof/Machine/Ops.lean ====
section
/-! DEFINITION. The named operations that every family shares: objects, counters, free values, the fault log, the
streams' transmit bytes, telemetry events and completions. -/

namespace Sys2Proof.Machine

/-! ## Counters and objects -/

/-- Counter `sub` of `index` raised by `n`, staying at `2^64 - 1`. -/
def State.bump (s : State) (index sub n : Nat) : State := { s with ctr := ctrAdd s.ctr (objKey index sub) n }

/-- The value a counter reads. -/
def State.ctrAt (s : State) (index sub : Nat) : Nat := smGet 0 s.ctr (objKey index sub)

/-- The stored value of an object (R392): what is kept is its difference from the default. -/
def State.get (s : State) (i k : Nat) : Nat := smGet 0 s.obj (objKey i k) ^^^ dfltOf i k

/-- An object set by the device (R394). -/
def State.set (s : State) (i k v : Nat) : State := { s with obj := smSet 0 s.obj (objKey i k) (v ^^^ dfltOf i k) }

/-- STAGE (R442): 0 S0, 1 S0_RECOVERY, 2 S1, 3 S1_HELD, 4 S2, 5 RETENTION_ENTRY, 6 RETENTION, 7 RETURNING. -/
def State.stage (s : State) : Nat := s.get 0x2000 1

def State.inS2 (s : State) : Bool := s.stage == 4

/-- Nanoseconds and microseconds since the always-on feed came, from the Pavane clock. -/
def State.ns (s : State) : Nat := s.time * 40

def State.us (s : State) : Nat := s.time * 40 / 1000

def State.ms (s : State) : Nat := s.time * 40 / 1000000

/-- A fresh value of `bits` bits that nothing constrains (log 5). -/
def State.fresh (s : State) (bits : Nat) : State × Nat :=
  ({ s with free := s.free + 1 }, Config.freeValue s.free bits % 2 ^ bits)

/-! ## The 15 units of the package, in the order of R31 -/

/-- DIE_TYPE and DIE_POS of a unit (R30): 0-3 CD, 4-5 MD, 6 IOD, 7-12 DV0-DV5, 13 HOST, 14 the open site. -/
def unitType (u : Nat) : Nat := if u < 4 then 1 else if u < 6 then 2 else if u = 6 then 3 else if u < 14 then 4 else 5

def unitPos (u : Nat) : Nat := if u < 4 then u else if u < 6 then u - 4 else if u = 6 then 0 else if u < 14 then u - 7 else 0

/-- Incarnation tag of a unit (R471). -/
def State.tag (s : State) (u : Nat) : Nat := s.get 0x6050 (u + 1)

/-- DIE_STATE of a unit (R31). -/
def State.dieState (s : State) (u : Nat) : Nat := s.get 0x1011 (u + 1)

/-! ## Streams: delivered bytes and transmit bytes -/

def State.strm (s : State) (n : Nat) : Strm := smGet {} s.net.streams n

def State.setStrm (s : State) (n : Nat) (x : Strm) : State :=
  { s with net := { s.net with streams := smSet {} s.net.streams n x } }

def State.send (s : State) (dest : Dest) (bytes : List Byte) : State :=
  { s with net := { s.net with wire := s.net.wire ++ [⟨dest, bytes⟩] } }

def pad8 (bs : List Byte) : List Byte := bs ++ List.replicate (roundUp bs.length 8 - bs.length) 0#8

/-! ## Open-site channels (R45-R47) -/

namespace Os
/-! Fields of a message header (R45) and of OPEN_SITE_BIND (R46). -/
def seq (h : Nat) : Nat := fld h 63 48
def length (h : Nat) : Nat := fld h 47 32
def kind (h : Nat) : Nat := fld h 31 28
def channel (h : Nat) : Nat := fld h 27 22
def arg (h : Nat) : Nat := fld h 21 0
def dir (b : Nat) : Nat := fld b 31 30
def stream (b : Nat) : Nat := fld b 13 0
end Os

def State.siteCh (s : State) (ch : Nat) : SiteCh := smGet {} s.pkg.site ch

def State.setSiteCh (s : State) (ch : Nat) (x : SiteCh) : State :=
  { s with pkg := { s.pkg with site := smSet {} s.pkg.site ch x } }

def State.siteBind (s : State) (ch : Nat) : Nat := s.get 0x1061 (ch + 1)

/-- An admitted open-site die on a link that is up, in S2. -/
def State.siteLive (s : State) : Bool := s.get 0x1060 1 != 0 && s.dieState 14 == 3 && s.inS2

/-- A message header (R45). -/
def siteHdr (seq len kind ch arg : Nat) : List Byte :=
  leBytes 8 (arg % 2 ^ 22 + ch % 64 * 2 ^ 22 + kind * 2 ^ 28 + len * 2 ^ 32 + seq % 65536 * 2 ^ 48)

/-- The payload bytes that a channel's next outbound DATA message may carry (R45, R47): what waits, at most 4,096 bytes, within
the credits that the die has granted. -/
def siteChunk (x : SiteCh) : Nat := min (min x.outBytes.length 4096) (x.outCredits * 256)

/-- Outbound DATA messages, as far as the credits reach; `n` bounds their number. -/
def State.sitePump : Nat → Nat → State → State
  | 0, _, s => s
  | n + 1, ch, s =>
    let x := s.siteCh ch
    let k := siteChunk x
    if k = 0 then s
    else
      let y := { x with outBytes := x.outBytes.drop k, outCredits := x.outCredits - cdiv k 256, outSeq := (x.outSeq + 1) % 65536 }
      State.sitePump n ch ((s.setSiteCh ch y).send (.site ch) (siteHdr x.outSeq k 0 ch 0 ++ x.outBytes.take k))

def State.siteFlow (s : State) (ch : Nat) : State := if s.siteLive then s.sitePump (s.siteCh ch).outBytes.length ch else s

/-- The outbound channels bound to a Raorn stream (R46). -/
def State.outChannels (s : State) (stream : Nat) : List Nat :=
  (List.range 64).filter fun ch => Os.dir (s.siteBind ch) == 2 && Os.stream (s.siteBind ch) == stream

/-- The bytes that a context writes to a stream, on every outbound channel bound to it (R46). -/
def State.siteOut (s : State) (stream : Nat) (bs : List Byte) : State :=
  if bs.isEmpty then s
  else (s.outChannels stream).foldl (fun s ch =>
    let x := s.siteCh ch
    (s.setSiteCh ch { x with outBytes := x.outBytes ++ bs }).siteFlow ch) s

/-- Message bytes put behind those a stream has to send. -/
def State.txAppend (s : State) (n : Nat) (bs : List Byte) : State :=
  let x := s.strm n
  s.setStrm n { x with tx := { x.tx with bytes := x.tx.bytes ++ bs } }

def Strm.isOpen (x : Strm) (kind : Nat) : Bool := x.phase == .opened && x.req.kind == kind

/-- Is a message of these bytes the next that the consumer of a stream takes (R346)? They stand first among those delivered in order,
behind `skip` bytes that wait there; the stream is OPEN, or stops after a CLOSE and delivers what lies before its SEQ (R342, log 72). -/
def Strm.hearsAt (x : Strm) (kind skip : Nat) (bs : List Byte) : Bool :=
  x.phase != .closed && x.req.kind == kind && !x.wasReset && (x.rxBytes.drop skip).take bs.length == bs

def Strm.hears (x : Strm) (kind : Nat) (bs : List Byte) : Bool := x.hearsAt kind 0 bs

/-- The TELEMETRY streams that are OPEN. -/
def State.telemetry (s : State) : List Nat := (s.net.streams.filter fun e => e.2.isOpen 5).map (·.1)

/-! ## The fault log (R479-R481) and its event records (R455) -/

structure LogArgs where
  kind : Nat
  detail : List Byte := []
  unit : Option Nat := none
  ctx : Nat := 0xFF
  status : Nat := 0
  entry : Nat := 0
  tag : Nat := 0
  listTag : Nat := 0
  deriving DecidableEq, Repr

/-- The 64 bytes of an entry (R479). -/
def logBytes (s : State) (a : LogArgs) : List Byte :=
  let v := s.log.seq + s.get 0x6001 2 * 2 ^ 32 + s.us % 2 ^ 64 * 2 ^ 64 + s.stage * 2 ^ 136 + a.kind * 2 ^ 144
    + (match a.unit with
      | none => 0
      | some u => unitPos u * 2 ^ 160 + unitType u * 2 ^ 164 + s.tag u * 2 ^ 168)
    + a.ctx * 2 ^ 176 + a.status * 2 ^ 184 + a.entry * 2 ^ 196 + a.tag * 2 ^ 208 + a.listTag * 2 ^ 224
  let bs := leBytes 32 v ++ padTo 28 a.detail
  bs ++ leBytes 4 (crc32 bs)

/-- The entry of a buffer that a new entry displaces: the oldest of kind 0x0001 (R479). -/
def dropOldest1 : List LogEntry → Option (List LogEntry)
  | [] => none
  | e :: r => if e.kind = 1 then some r else (dropOldest1 r).map (e :: ·)

/-- Does task 7 push telemetry records: in S2 outside deep idle, and not paused (R445, R458)? -/
def State.telemetryRuns (s : State) : Bool := s.get 0x2000 1 == 4 && s.get 0x2002 1 != 2 && s.get 0x5100 8 != 1

/-- One event record on every OPEN TELEMETRY stream (R455). -/
def State.eventRecord (s : State) (e : List Byte) : State :=
  if s.telemetry = [] ∨ !s.telemetryRuns then s
  else
    let hd := leBytes 4 s.bg.evSeq ++ leBytes 4 (s.us % 2 ^ 32) ++ leBytes 2 1 ++ leBytes 1 1 ++ leBytes 1 s.stage
      ++ leBytes 4 0
    let en := leBytes 2 0x6032 ++ leBytes 1 1 ++ leBytes 1 9 ++ leBytes 4 0 ++ leBytes 8 0
    let s := s.telemetry.foldl (fun s n => s.txAppend n (hd ++ en ++ e)) s
    { s with bg := { s.bg with evSeq := (s.bg.evSeq + 1) % 2 ^ 32 } }

/-- One event recorded in the fault log (R479). -/
def State.logAdd (s : State) (a : LogArgs) : State :=
  let e : LogEntry := ⟨s.log.seq, a.kind, logBytes s a⟩
  let next := (s.log.seq + 1) % 2 ^ 32
  let s := s.eventRecord e.bytes
  if s.log.buf.length < 4096 then { s with log := { s.log with seq := next, buf := s.log.buf ++ [e] } }
  else
    let s := s.bump 0x803E 0x0D 1
    match (if a.kind = 1 then none else dropOldest1 s.log.buf) with
    | some b => { s with log := { s.log with seq := next, buf := b ++ [e] } }
    | none => { s with log := { s.log with seq := next } }

/-- The oldest buffered entry reaches the ring of 262,144 entries (R479). -/
def State.logDrain (s : State) : State :=
  match s.log.buf with
  | [] => s
  | e :: r =>
    let ring := s.log.ring ++ [e]
    { s with log := { s.log with buf := r, ring := if 262144 < ring.length then ring.tail else ring } }

/-- Every entry held, oldest first. -/
def State.logHeld (s : State) : List LogEntry := s.log.ring ++ s.log.buf

def State.ctx (s : State) (c : Nat) : Ctx := nth noCtx s.sched.ctxs c

def State.modCtx (s : State) (c : Nat) (f : Ctx → Ctx) : State :=
  { s with sched := { s.sched with ctxs := modNth s.sched.ctxs c f } }

/-! ## Completions (R14, R17, R349) -/

/-- The 24-byte record of R349. -/
def compBytes (s : State) (a : Addr) (st : Status) (ctx detail : Nat) (rowFollows : Bool) : List Byte :=
  leBytes 24 (s.us % 2 ^ 32 + b2n rowFollows * 2 ^ 32 + b2n a.merged * 2 ^ 33 + a.model * 2 ^ 40 + ctx * 2 ^ 48
    + st.code * 2 ^ 56 + a.entry * 2 ^ 68 + a.tag * 2 ^ 80 + a.listTag * 2 ^ 96 + detail * 2 ^ 128)

/-- One completion sent: on its COMPLETION stream if that is OPEN, else counted as discarded (R344). The row, which is what a
context writes to the stream, also goes out on the open-site channels bound to it (R46; DEDUCED, log 75). -/
def State.sendComp (s : State) (a : Addr) (st : Status) (ctx detail : Nat) (row : List Byte) : State :=
  let s := ({ s with sched := { s.sched with comps := s.sched.comps ++ [CompRec.mk a st ctx detail row s.time] } }).siteOut a.stream row
  if (s.strm a.stream).isOpen 2 then
    s.txAppend a.stream (compBytes s a st ctx detail (!row.isEmpty) ++ pad8 row)
  else s.bump 0x8039 0x0E 1

/-- The final completion of a command to one address: sent, the latest use of its context (R307), counted when it is TIMEOUT
(R487), and logged when its results are not valid (R17). -/
def State.finalComp (s : State) (a : Addr) (st : Status) (ctx detail : Nat) (row : List Byte) (hdr : Nat) (desc : Desc) : State :=
  let s := (s.sendComp a st ctx detail row).modCtx ctx fun x => { x with lastUse := s.time }
  let s := if st = .timeout then s.bump 0x803E 0x01 1 else s
  if st.valid then s
  else s.logAdd { kind := 1, ctx := ctx, status := st.code, entry := a.entry, tag := a.tag, listTag := a.listTag,
                  detail := leBytes 1 (desc.toNat % 256) ++ leBytes 1 (fld hdr 1 0) ++ leBytes 1 (fld desc.toNat 63 56) }

/-! ## Contexts -/

namespace Rec
/-! Fields of a model record (R304). -/
def valid (r : Nat) : Bool := bit r 0
def pin (r : Nat) : Bool := bit r 13
def cls (r : Nat) : Nat := fld r 15 14
def slot (r : Nat) : Nat := fld r 18 16
def poolUnits (r : Nat) : Nat := fld r 27 19
def cacheUnits (r : Nat) : Nat := fld r 37 28
def partUnits (r : Nat) : Nat := fld r 49 38
def sourceStream (r : Nat) : Nat := fld r 63 50
def footprint (r : Nat) : Nat := fld r 303 264
def imageBytes (r : Nat) : Nat := fld r 343 304
def tableOffset (r : Nat) : Nat := fld r 383 344
def pinOff (r i : Nat) : Nat := fld r (415 + 32 * i) (397 + 32 * i)
def pinLen (r i : Nat) : Nat := fld r (396 + 32 * i) (384 + 32 * i)
end Rec

/-- A record describes a model (R304). PART_UNITS has 12 bits: 1-2,047 leaves one value out. -/
def recordOk (r : Nat) : Bool :=
  let part := Rec.partUnits r * 256 * mib
  Rec.valid r && fld r 12 1 == 0 && fld r 263 64 == 0
    && decide (1 ≤ Rec.partUnits r) && decide (Rec.partUnits r ≤ 2047) && decide (Rec.cacheUnits r ≤ 512)
    && decide (1 ≤ Rec.poolUnits r) && decide (Rec.poolUnits r ≤ 256) && decide (1 ≤ Rec.imageBytes r)
    && Rec.footprint r != 0 && decide (Rec.tableOffset r % 64 = 0)
    && decide (Rec.tableOffset r + 262080 + 4096 ≤ Rec.imageBytes r) && decide (Rec.imageBytes r ≤ part)
    && (List.range 4).all fun i => Rec.pinLen r i == 0 || decide ((Rec.pinOff r i + Rec.pinLen r i) * mib ≤ part)

/-- MODEL_RECORD, MODEL_CONTROL and the fields of MODEL_STATUS of a model (R305, R329). -/
def State.record (s : State) (m : Nat) : Nat := s.get 0x4001 (m + 1)

def State.modelState (s : State) (m : Nat) : Nat := s.get 0x4002 (m + 1)

def State.setModelState (s : State) (m v : Nat) : State := s.set 0x4002 (m + 1) v

def State.modelReason (s : State) (m : Nat) : Nat := fld (s.get 0x4003 (m + 1)) 31 24

def State.setReason (s : State) (m v : Nat) : State := s.set 0x4003 (m + 1) (setFld (s.get 0x4003 (m + 1)) 31 24 v)

def State.modelCtx (s : State) (m : Nat) : Nat := fld (s.get 0x4003 (m + 1)) 7 0

def State.setModelCtx (s : State) (m c : Nat) : State := s.set 0x4003 (m + 1) (setFld (s.get 0x4003 (m + 1)) 7 0 c)

/-- The stages in which no context runs and no command takes effect on the cores (R421-R425). -/
def State.retaining (s : State) : Bool := decide (5 ≤ s.stage)

/-- Is the context held by R467 or by CTX_HOLD (R469)? -/
def State.held (s : State) (c : Nat) : Bool := s.get 0x6005 (c + 1) == 1 || fld (s.get 0x6003 (c + 1)) 31 24 != 0

/-! ## Arbitration (R91) -/

/-- The winner of R91 among requesters with their classes, for pointer `p`. -/
def arbWinner (p : Nat) (reqs : List (Nat × Nat)) : Nat :=
  let best := (listMin? (reqs.map (·.2))).getD 0
  let l := (reqs.filter fun q => q.2 == best).map (·.1)
  match listMin? (l.filter fun x => decide (p ≤ x)) with
  | some w => w
  | none => (listMin? l).getD 0

end Sys2Proof.Machine
end

