-- ==== Sys2Proof/Machine/Clocks.lean ====
section
/-! DEFINITION. The clock domains (R427-R432) and POWER_STATE (R433). -/

namespace Sys2Proof.Machine

/-- GROUP_CLOCK of group `g` (0-39: `d * 10 + g`). -/
def State.groupClock (s : State) (g : Nat) : Nat := s.get 0x2110 (g + 1)

def State.setGroupClock (s : State) (g v : Nat) : State := s.set 0x2110 (g + 1) v

/-- DIE_PLL: 0-3 CD0-CD3, 4-5 MD0-MD1, 6 IOD. -/
def State.pll (s : State) (p : Nat) : Nat := s.get 0x2111 (p + 1)

def State.setPll (s : State) (p v : Nat) : State := s.set 0x2111 (p + 1) v

def State.allGroupsOff (s : State) : Bool := (List.range 40).all fun g => s.groupClock g == 0

/-- ACTIVE or IDLE in S2 outside DEEP_IDLE (R433). -/
def State.powerUpdate (s : State) : State :=
  if s.inS2 && s.get 0x2002 1 != 2 then s.set 0x2002 1 (if s.allGroupsOff then 1 else 0) else s

/-- A start request to a die's PLL: OFF starts, STOPPING is queued (R432, R441). -/
def State.startPll (s : State) (p : Nat) : State :=
  match s.pll p with
  | 0 => (s.setPll p 1).bump 0x803C 0x05 1
  | 3 => (s.setPll p 4).bump 0x803C 0x08 1
  | _ => s

/-- May a group begin its start now (R429, R432, R513): its die's PLL runs, fewer than two groups of the die are starting
(each start lasts 100 ns), and the power limit does not forbid it? -/
def State.groupMayStart (s : State) (g : Nat) : Bool :=
  let d := g / 10
  s.pll d == 2 && !s.pkg.powerBlocked
    && decide (((List.range 10).filter fun i => s.groupClock (d * 10 + i) == 1).length < 2)

/-- A start request to a cluster group (R428, R432): while it may not begin it waits, and a stopped PLL starts. -/
def State.startGroup (s : State) (g : Nat) : State :=
  match s.groupClock g with
  | 0 =>
    if s.groupMayStart g then (s.setGroupClock g 1).bump 0x803C 0x04 1
    else
      let s := s.startPll (g / 10)
      if s.pkg.wakeWait.contains g then s
      else { s with pkg := { s.pkg with wakeWait := s.pkg.wakeWait ++ [g] } }
  | 3 => (s.setGroupClock g 4).bump 0x803C 0x08 1
  | _ => s

/-- The clocks of every group that a command's cores lie in (R428). -/
def State.wake (s : State) (cores : List Nat) : State :=
  ((firstListings (cores.map groupOf)).foldl State.startGroup s).powerUpdate

end Sys2Proof.Machine
end

