-- ==== Sys2Proof/Machine/Cache.lean ====
section
/-! DEFINITION. The address map, the memory-side caches, the stream trackers and uncorrectable errors
(R233-R255). -/

namespace Sys2Proof.Machine

/-! ## The address map (R233, R234, R238) -/

def stackOf (l : Nat) : Nat := fld l 15 13
def mdOf (l : Nat) : Nat := fld l 15 15
def pseudoOf (l : Nat) : Nat := fld l 12 8 ^^^ fld l 28 24
def bankOf (l : Nat) : Nat := fld l 23 18
def rowOf (l : Nat) : Nat := fld l 38 24

/-- The row of HBM that a flat address lies in. -/
def rowAt (a : Nat) : HbmRow :=
  if a < hbmBytes then ⟨stackOf a, pseudoOf a, bankOf a, rowOf a⟩
  else
    let o := (a - rsvBase) % 2 ^ 25
    ⟨(a - rsvBase) / 2 ^ 25, o / 1024 % 32, o / 2 ^ 15 % 64, 32752 + o / 2 ^ 21⟩

/-- The place of an HBM line in the patrol of its pseudo channel (R447): row by row, in each the 64 banks, in each bank the 16
lines (the order within a row number is the model's: log 31). -/
def linePlace (l : Nat) : Nat :=
  let r := rowAt l
  r.row * 1024 + r.bank * 16 + (if l < hbmBytes then fld l 17 16 * 4 + fld l 7 6 else (l - rsvBase) % 1024 / 64)

/-- The pseudo channel of an HBM line among the 256 of the package. -/
def lineChannel (l : Nat) : Nat := (rowAt l).stack * 32 + (rowAt l).pc

/-- The line number within its memory-side die (R238). -/
def lineNo (l : Nat) : Nat := (l >>> 16) * 512 + fld l 14 6

def lineBase (l : Nat) : Nat := l - l % 64

/-- The set of a line in the share of its context (R238); none without a share. -/
def cacheSet (c : Ctx) (l : Nat) : Option Nat :=
  if c.cacheUnits = 0 then none else some (c.cacheBase * 1024 + lineNo l % (c.cacheUnits * 1024))

/-! ## Uncorrectable errors (R249-R255) -/

/-- Is the line listed in a lost-line list (R254)? -/
def State.isLost (s : State) (l : Nat) : Bool := s.memsys.lost.any fun e => e.1 == lineBase l

/-- The cached line that holds a linear address. -/
def State.cached (s : State) (a : Nat) : Option CacheLine := s.memsys.lines.find? fun c => c.line == lineBase a

/-- The eight 64-bit words of a line. -/
def lineWords (l : Nat) : List Nat := (List.range 8).map fun i => l + 8 * i

/-- The 64-bit words that a read finds uncorrectable now (R249, R251, R254): those of a stored unit or of a lost line, unless its
line stands in the cache, and the bad words of cached lines. -/
def State.ueNow (s : State) : List (Nat × Bool) :=
  let cold (l : Nat) : Bool := decide (hbmBytes ≤ l) || (s.cached l).isNone
  let stored := s.ue.flatMap fun e => if !cold e.1 then [] else if e.1 < poolFlat then lineWords e.1 else [e.1]
  let lost := s.memsys.lost.flatMap fun e => if cold e.1 then lineWords e.1 else []
  let held := s.memsys.lines.flatMap fun c => c.bad.map fun w => c.line + 8 * w
  (stored ++ lost ++ held).foldl (fun u w => smSet false u w true) []

/-- The location that an access to `a` concerns (R251): 64 bytes of HBM or of the reserved rows, a word of a cached line or of
another SRAM. -/
def State.errUnit (s : State) (a : Nat) : Nat :=
  if a < poolFlat && (decide (hbmBytes ≤ a) || (s.cached a).isNone) then lineBase a else wordOf a

def State.errSize (s : State) (a : Nat) : Nat :=
  if a < poolFlat && (decide (hbmBytes ≤ a) || (s.cached a).isNone) then 64 else 8

/-- UNIT, ADDRESS and CLUSTER of a flat address (R255). The byte address within a cache counts its sets, then the ways of a set
(log 34). -/
def State.ueWhere (s : State) (a : Nat) : Nat × Nat × Nat :=
  if a < hbmBytes then
    match s.cached a with
    | some c => (1 + mdOf a, (((cacheSet (s.ctx c.ctx) a).getD 0 * 16 + c.way) * 64 + wordOf a % 64), 0)
    | none => (if s.isLost a then 6 else 0, lineBase a, 0)
  else if a < poolFlat then (5, lineBase a - rsvBase, 0)
  else if a < sliceFlat then (3, (a - poolFlat) % 2 ^ 20, (a - poolFlat) / 2 ^ 20)
  else (4, (a - sliceFlat) % (8 * sliceBytes), clusterOf ((a - sliceFlat) / (8 * sliceBytes)))

/-- The layout of R255. -/
def ueRecord (unit addr cluster ctx source : Nat) : Nat :=
  source * 2 ^ 24 + cluster * 2 ^ 32 + unit * 2 ^ 48 + ctx * 2 ^ 56 + addr * 2 ^ 64

/-- One access that met an uncorrectable error at a place of R255: counted for HBM or for SRAM and recorded (R251), and logged
unless `quiet`. -/
def State.meetAt (s : State) (w : Nat × Nat × Nat) (ctx source : Nat) (quiet : Bool) : State :=
  let v := ueRecord w.1 w.2.1 w.2.2 ctx source
  let sram := w.1 == 1 || w.1 == 2 || w.1 == 3 || w.1 == 4
  let s := (s.bump 0x8036 (if sram then 0x04 else 0x02) 1).set 0x5006 1 v
  if quiet then s else s.logAdd { kind := 0x10, ctx := ctx, detail := leBytes 16 v }

def State.meetUe (s : State) (a ctx source : Nat) (quiet : Bool) : State := s.meetAt (s.ueWhere a) ctx source quiet

/-- A write of a whole line takes the line off the lost-line list (R254). -/
def State.unlose (s : State) (l : Nat) : State :=
  { s with memsys := { s.memsys with lost := s.memsys.lost.filter fun e => e.1 != lineBase l } }

/-- A dirty line written back: HBM gets its 64 bytes with fresh check bits. One with an uncorrectable word enters the lost-line
list, once, or is lost when that is full (R254); the error is met without a reading command (R253). -/
def State.writeBack (s : State) (c : CacheLine) : State :=
  if !c.dirty then s
  else match c.bad with
    | [] => { s.unlose c.line with ue := smSet false s.ue c.line false }
    | w :: _ =>
      let s := s.meetUe (c.line + 8 * w) c.ctx 5 false
      if s.isLost c.line then s
      else if (s.memsys.lost.filter fun e => mdOf e.1 == mdOf c.line).length < 4096 then
        { s with memsys := { s.memsys with lost := s.memsys.lost ++ [(c.line, c.ctx)] } }
      else
        let s := { s with mem := memWipe s.mem c.line 64, ue := smSet false s.ue c.line false }
        ((s.modCtx c.ctx fun x => { x with lostPending := true }).bump 0x8036 0x05 1).logAdd
          { kind := 0x11, ctx := c.ctx, detail := leBytes 8 c.line }

/-! ## Cache lines (R237-R239) -/

/-- The cache lines that stand in one set of one die. -/
def State.inSet (s : State) (md set : Nat) : List CacheLine :=
  s.memsys.lines.filter fun c => mdOf c.line == md && cacheSet (s.ctx c.ctx) c.line == some set

/-- The unpinned way least recently used. -/
def lruWay (l : List CacheLine) : Option CacheLine :=
  (l.filter fun c => !c.pinned).foldl (fun b c => match b with
    | none => some c
    | some x => if c.stamp < x.stamp then some c else some x) none

def State.dropLine (s : State) (l : Nat) : State :=
  { s with memsys := { s.memsys with lines := s.memsys.lines.filter fun c => c.line != l } }

def State.modLine (s : State) (l : Nat) (f : CacheLine → CacheLine) : State :=
  { s with memsys := { s.memsys with lines := mapIf (fun c => c.line == l) f s.memsys.lines } }

/-- The lowest way of a set that holds no line. -/
def freeWay (ways : List CacheLine) : Nat := ((List.range 16).find? fun w => !ways.any fun c => c.way == w).getD 0

/-- Does the model record of a context pin the line (R304, R308)? -/
def pinnedRange (x : Ctx) (l : Nat) : Bool :=
  (List.range 4).any fun i => decide (x.partBase + Rec.pinOff x.record i * mib ≤ l)
    && decide (l < x.partBase + (Rec.pinOff x.record i + Rec.pinLen x.record i) * mib)

/-- A line placed in its set, as most recently used (R237-R239): the least recently used unpinned way leaves a full set. A line of
a pinned range is pinned, unless 12 ways of the set are: then it is held unpinned and counted. A line that stands in the cache
stays where it is. -/
def State.insertLine (s : State) (ctx l : Nat) (dirty pref : Bool) : State :=
  let l := lineBase l
  match cacheSet (s.ctx ctx) l with
  | none => s
  | some set =>
    let ways := s.inSet (mdOf l) set
    if ways.any fun c => c.line == l then s.modLine l fun c => { c with dirty := c.dirty || dirty, stamp := s.memsys.clock }
    else
      let pin := pinnedRange (s.ctx ctx) l
      let pinOk := pin && decide ((ways.filter (·.pinned)).length < 12)
      let s := if pin && !pinOk then s.bump 0x8036 0x11 1 else s
      let (s, way) := if ways.length < 16 then (s, freeWay ways) else
        match lruWay ways with
        | some v => ((s.writeBack v).dropLine v.line, v.way)
        | none => (s, 0)
      { s with memsys := { s.memsys with clock := s.memsys.clock + 1, lines := s.memsys.lines ++
          [CacheLine.mk l ctx dirty pinOk pref s.memsys.clock way []] } }

/-! ## Stream trackers (R241-R244) -/

def State.setTrackers (s : State) (l : List Tracker) : State := { s with memsys := { s.memsys with trackers := l } }

/-- A tracker taken for a stream (R244): 64 to a stack, 16 to a context in it; a declared stream may take the least recently
used learned one. -/
def State.takeTracker (s : State) (new : Tracker) : State :=
  let ts := s.memsys.trackers
  let here := ts.filter fun t => t.stack == new.stack
  let mine := here.filter fun t => t.ctx == new.ctx
  if 16 ≤ mine.length then s.bump 0x8036 0x12 1
  else if here.length < 64 then s.setTrackers (ts ++ [new])
  else if new.learned then s.bump 0x8036 0x12 1
  else
    match (here.filter (·.learned)).foldl (fun b t => match b with
      | none => some t
      | some x => if t.stamp < x.stamp then some t else some x) none with
    | some v => s.setTrackers (ts.erase v ++ [new])
    | none => s.bump 0x8036 0x12 1

/-- Is the line one that a learned stream reaches from its latest demand, at most 256 KiB on (R241, R243)? -/
def Tracker.leads (t : Tracker) (l : Nat) : Bool :=
  let d : Int := (l : Int) - t.last
  t.learned && t.stride != 0 && decide (0 ≤ d * t.stride) && decide (d % t.stride = 0) && decide (d.natAbs ≤ 262144)

/-- Is the line one of a declared stream's walk that lies ahead of the demand, by at most 256 KiB of lines (R241)? -/
def Tracker.ahead (t : Tracker) (l : Nat) : Bool := !t.learned && ((t.walk.drop t.pos).take 4096).contains l

/-- Does a declared stream of the context cover the line (R243)? -/
def State.covered (s : State) (ctx l : Nat) : Bool :=
  s.memsys.trackers.any fun t => t.ctx == ctx && t.stack == stackOf l && !t.learned && t.walk.contains l

/-- A demand miss that no declared stream covers is remembered; three with one nonzero difference below 16 MiB lock a tracker
(R243). -/
def State.learn (s : State) (ctx l : Nat) : State :=
  let stack := stackOf l
  let old := ((s.memsys.misses.find? fun h => h.stack == stack && h.ctx == ctx).map (·.lines)).getD []
  let rest := s.memsys.misses.filter fun h => !(h.stack == stack && h.ctx == ctx)
  let now := (l :: old).take 3
  let s := { s with memsys := { s.memsys with misses := rest ++ [MissHist.mk stack ctx now] } }
  match now with
  | [c, b, a] =>
    let d1 := (b : Int) - a
    let d2 := (c : Int) - b
    if d1 = d2 && d1 != 0 && decide (d1.natAbs < 2 ^ 24)
        && !(s.memsys.trackers.any fun t => t.stack == stack && t.ctx == ctx && t.learned && t.stride == d1) then
      s.takeTracker ⟨stack, ctx, true, c, d1, 0, s.memsys.clock, 0, [], 0⟩
    else s
  | _ => s

/-- A tracker after a demand of its context in its stack (R243): a declared one moves on over its walk; a learned one that the
line hits moves to it, and one that 64 demands in a row missed ends. -/
def Tracker.demand (t : Tracker) (l clock : Nat) : Option Tracker :=
  if !t.learned then
    match t.walk.findIdx? fun x => x == l with
    | some i => some { t with pos := max t.pos (i + 1), stamp := clock }
    | none => some t
  else if t.leads l then some { t with last := l, idle := 0, stamp := clock }
  else if 63 ≤ t.idle then none else some { t with idle := t.idle + 1 }

def State.trackDemand (s : State) (ctx l : Nat) : State :=
  s.setTrackers <| s.memsys.trackers.filterMap fun t =>
    if t.stack == stackOf l && t.ctx == ctx then t.demand l s.memsys.clock else some t

/-- One demand access to a line of HBM through the cache (R237, R239). `place`: a missing line is held; one whose read met an
uncorrectable error is not, so that a later read meets it again (R251). `declared`: a declared stream covers the access. -/
def State.touchLine (s : State) (ctx a : Nat) (write place declared : Bool) : State :=
  let l := lineBase a
  let s := { s with memsys := { s.memsys with clock := s.memsys.clock + 1 } }
  let known := declared || s.covered ctx l
  let s := s.trackDemand ctx l
  match s.cached l with
  | some c =>
    ((s.bump 0x8036 0x06 1).bump 0x8036 0x09 (b2n c.pref)).modLine l fun x =>
      { x with dirty := x.dirty || write, pref := false, stamp := s.memsys.clock }
  | none =>
    let s := s.bump 0x8036 0x07 1
    let s := if known then s else s.learn ctx l
    if place then s.insertLine ctx l write false else s

/-- A line read ahead of the demand into the context's share (R241, R253): an uncorrectable one is not placed. -/
def State.prefetchLine (s : State) (ctx a : Nat) : State :=
  let l := lineBase a
  let s := s.bump 0x8036 0x08 1
  if isUe s.ue l || s.isLost l then s.meetUe l ctx 2 false else s.insertLine ctx l false true

/-- May a tracker of the context read the line ahead: one of its partition, not in the cache, of a context with a share? -/
def State.mayPrefetch (s : State) (ctx l : Nat) : Bool :=
  let x := s.ctx ctx
  decide (x.partBase ≤ l) && decide (l < x.partBase + x.partSize) && (cacheSet x l).isSome && (s.cached l).isNone

/-- The lines of `pre` that declared streams of the context have come near enough to, read ahead. -/
def State.prefetchDue (s : State) (ctx : Nat) (pre : List Nat) : State :=
  pre.foldl (fun s a =>
    let l := lineBase a
    if s.mayPrefetch ctx l && s.memsys.trackers.any (fun t => t.ctx == ctx && t.stack == stackOf l && t.ahead l)
      then s.prefetchLine ctx l else s) s

end Sys2Proof.Machine
end

