-- ==== Sys2Proof/Machine/Checks.lean ====
section
/-! DEFINITION. The dispatch checks and core checks of R136, and core sets (R308). -/

namespace Sys2Proof.Machine

/-! ## Fields of a command descriptor (R116) -/

namespace Cmd
def opcode (d : Nat) : Nat := fld d 7 0
def ta (d : Nat) : Nat := fld d 19 8
def tb (d : Nat) : Nat := fld d 31 20
def tc (d : Nat) : Nat := fld d 43 32
def td (d : Nat) : Nat := fld d 55 44
def coreset (d : Nat) : Nat := fld d 63 56
def layer (d : Nat) : Nat := fld d 95 80
-- R118
def beta (d : Nat) : Nat := fld d 127 96
def alpha (d : Nat) : Nat := fld d 143 128
def outScale (d : Nat) : Int := toSigned 7 (fld d 150 144)
def round (d : Nat) : Nat := fld d 153 152
def tile (d : Nat) : Nat := fld d 155 154
def tileK (d : Nat) : Nat := (fld d 158 156 + 1) * 8
def transA (d : Nat) : Bool := bit d 160
def transB (d : Nat) : Bool := bit d 161
def accInto (d : Nat) : Bool := bit d 162
def accMode (d : Nat) : Nat := fld d 164 163
def epilogue (d : Nat) : Nat := fld d 168 165
def idxEn (d : Nat) : Bool := bit d 169
def idxReg (d : Nat) : Nat := fld d 174 170
def fullK (d : Nat) : Nat := fld d 223 192
def kBase (d : Nat) : Nat := fld d 255 224
def strideH (d : Nat) : Nat := fld d 263 256
def strideW (d : Nat) : Nat := fld d 271 264
def dilH (d : Nat) : Nat := fld d 279 272
def dilW (d : Nat) : Nat := fld d 287 280
def padTop (d : Nat) : Nat := fld d 295 288
def padLeft (d : Nat) : Nat := fld d 303 296
def padMode (d : Nat) : Nat := fld d 305 304
def groups (d : Nat) : Nat := fld d 327 312
def winH (d : Nat) : Nat := fld d 335 328
def winW (d : Nat) : Nat := fld d 343 336
def poolOp (d : Nat) : Nat := fld d 345 344
def divMode (d : Nat) : Nat := fld d 346 346
def padConst (d : Nat) : Nat := fld d 415 384
-- R131
def vop (d : Nat) : Nat := fld d 102 96
def vround (d : Nat) : Nat := fld d 105 104
def vidxEn (d : Nat) : Bool := bit d 106
def vidxReg (d : Nat) : Nat := fld d 111 107
def valpha (d : Nat) : Nat := fld d 127 112
def scalar (d : Nat) : Nat := fld d 159 128
-- R134
def mode (d : Nat) : Nat := fld d 99 96
def mround (d : Nat) : Nat := fld d 101 100
-- R135
def redop (d : Nat) : Nat := fld d 99 96
def srcReg (d : Nat) : Nat := fld d 104 100
def bdst (d : Nat) : Nat := fld d 109 105
def lspace (d : Nat) : Nat := fld d 101 100
def laddr (d : Nat) : Nat := fld d 141 102
def ldst (d : Nat) : Nat := fld d 146 142
end Cmd

/-- The number that names no tensor (R102). -/
def noTensor : Nat := 0xFFF

/-- Every range of the list is zero in the descriptor. -/
def zeroAt (d : Nat) (l : List (Nat × Nat)) : Bool := l.all fun p => fld d p.1 p.2 == 0

/-- Reserved ranges of a descriptor by opcode (R10, R116, R118, R131, R134, R135). -/
def reservedOf (d : Nat) : List (Nat × Nat) :=
  let win := [(511, 416), (383, 347), (311, 306), (191, 175), (159, 159), (151, 151)]
  let mm := [(346, 328), (327, 312)]
  (79, 64) :: match Cmd.opcode d with
    | 1 => win ++ mm ++ [(415, 384), (305, 256)]
    | 2 => win ++ mm ++ [(161, 160)]
    | 3 => win ++ [(346, 328), (255, 192), (174, 154), (150, 96)]
    | 4 => win ++ [(327, 312), (255, 192), (174, 154), (150, 96)]
    | 5 => [(511, 160), (103, 103)]
    | 6 => [(511, 160), (127, 102)]
    | 7 => [(511, 110)]
    | 8 => [(511, 147), (99, 96)]
    | _ => []

/-- Window fields that must not be zero (R136). -/
def windowNonzero (d : Nat) : Bool :=
  Cmd.strideH d != 0 && Cmd.strideW d != 0 && Cmd.dilH d != 0 && Cmd.dilW d != 0

def isOut5 (f : Fmt) : Bool := f == .fp32 || f == .bf16 || f == .fp16 || f == .e4m3 || f == .e5m2
def isFp8 (f : Fmt) : Bool := f == .e4m3 || f == .e5m2

/-- The operand pairs and outputs of R53. -/
def pairOk (fa fb : Fmt) (sa sb : Bool) (fc : Fmt) (partialOut : Bool) : Bool :=
  let out (l : List Fmt) := partialOut || l.contains fc
  let five : List Fmt := [.fp32, .bf16, .fp16, .e4m3, .e5m2]
  if fa == .fp4 && fb == .fp4 then sa && sb && out five
  else if isFp8 fa && isFp8 fb then out five
  else if fa == .int8 && fb == .int8 then out five || (fc == .int32 && !sa && !sb)
  else if fa == .fp16 && fb == .fp16 then !sa && !sb && out [.fp32, .bf16, .fp16]
  else if fa == .bf16 && fb == .bf16 then !sa && !sb && out five
  else false

/-- A BF16 output carries a sidecar (R113). -/
def outScOk (t : Nat) : Bool := Ten.fmtD t != .bf16 || Ten.scValid t

/-- A BF16 operand of any command has a sidecar, or its SC_SPACE is SLICE (R114, R136). -/
def inScOk (t : Nat) : Bool := Ten.fmtD t != .bf16 || Ten.scValid t || Ten.scSpace t == 0

/-- The checks of MATMUL and CONV over descriptors (R53, R114, R117, R122, R123, R125, R136). -/
def matrixOk (d a b c td : Nat) : Bool :=
  let conv := Cmd.opcode d == 2
  let hasTd := Cmd.td d != noTensor
  let needTd := Cmd.accMode d == 2 || Cmd.epilogue d == 3 || Cmd.epilogue d == 4
  let ranks := if conv then Ten.rank a == 3 && Ten.rank b == 3 && Ten.rank c == 3
    else decide (1 ≤ Ten.rank a) && decide (1 ≤ Ten.rank b) && decide (1 ≤ Ten.rank c)
  Cmd.tile d != 3 && decide (Cmd.round d < 2) && Cmd.accMode d != 3 && decide (Cmd.epilogue d < 7)
    && hasTd == needTd && ranks && (!hasTd || decide (1 ≤ Ten.rank td))
    && (!conv || windowNonzero d)
    && pairOk (Ten.fmtD a) (Ten.fmtD b) (Ten.scaled a) (Ten.scaled b) (Ten.fmtD c) (Cmd.accMode d == 1)
    && (Cmd.accMode d != 1 || (Ten.fmtD c == .acc96 && !Cmd.accInto d && Cmd.epilogue d == 0 && Cmd.outScale d == 0))
    && (Cmd.accMode d != 2 || (Ten.fmtD td == .acc96 && Cmd.epilogue d != 3 && Cmd.epilogue d != 4))
    && ((Cmd.epilogue d != 3 && Cmd.epilogue d != 4) || Ten.fmtD td == .code8)
    && (Cmd.epilogue d == 0 || Ten.fmtD c != .int32)
    && ((!Ten.scaled a && !Ten.scaled b) || Cmd.kBase d % 32 == 0)
    && outScOk c && inScOk a && inScOk b && (!conv || Ten.fmtD a != .bf16 || !Ten.scValid a)

def isWinFmt (t : Nat) : Bool := Ten.fmtD t == .bf16 || Ten.fmtD t == .fp32

/-- The checks of CONV_GROUPED and POOL (R117, R125, R129, R130, R136). -/
def windowOk (d a b c : Nat) : Bool :=
  let grouped := Cmd.opcode d == 3
  Cmd.td d == noTensor && (Cmd.tb d == noTensor) != grouped && decide (Cmd.round d < 2) && Cmd.poolOp d != 3
    && windowNonzero d && (if grouped then Cmd.groups d != 0 else Cmd.winH d != 0 && Cmd.winW d != 0)
    && Ten.rank a == 3 && Ten.rank c == 3 && isWinFmt a && isWinFmt c
    && (!grouped || (Ten.rank b == 3 && isWinFmt b && inScOk b))
    && inScOk a && outScOk c

/-- OP values with a meaning (R132, R149). -/
def vopOk (op : Nat) : Bool :=
  decide (op ≤ 0x11) || op == 0x18 || op == 0x19 || op == 0x1A || (decide (0x20 ≤ op) && decide (op ≤ 0x2A))

/-- Operations with a side-code or mask tensor in TD (R132, R149). -/
def vopTd (op : Nat) : Bool := op == 0x10 || op == 0x11 || op == 0x27 || op == 0x28 || op == 0x2A

/-- The checks of VECTOR (R117, R131-R133, R148, R149, R157). -/
def vectorOk (d a b c td : Nat) : Bool :=
  let op := Cmd.vop d
  let bwd := decide (0x20 ≤ op) && decide (op ≤ 0x28)
  vopOk op && decide (Cmd.vround d < 2) && ((Cmd.td d != noTensor) == vopTd op)
    && (if decide (0x20 ≤ op) && decide (op ≤ 0x26) then Cmd.tb d != noTensor
        else if decide (0x27 ≤ op) then Cmd.tb d == noTensor else true)
    && isOut5 (Ten.fmtD a) && isOut5 (Ten.fmtD c) && (Cmd.tb d == noTensor || isOut5 (Ten.fmtD b))
    && (!vopTd op || Ten.fmtD td == .code8)
    && (!bwd || (Ten.fmtD a == .bf16 && Ten.fmtD c == .bf16))
    && (op != 0x29 || !(f32 (Cmd.scalar d)).isNan)
    && inScOk a && (Cmd.tb d == noTensor || inScOk b) && outScOk c

/-- The converting pairs of the COPY table (R134). -/
def convertOk (src dst : Fmt) : Bool :=
  (isOut5 dst && (isOut5 src || src == .fp4 || src == .int8 || src == .int32))
    || ((dst == .int8 || dst == .int32) && isOut5 src)

def sameCopy (a c : Nat) : Bool := Ten.fmtD a == Ten.fmtD c && Ten.scaled a == Ten.scaled c

/-- Formats that carry no block scales and so no SCALED conversion (R134). -/
def scaledDstOk (c : Nat) : Bool :=
  !Ten.scaled c || !(Ten.fmtD c == .fp16 || Ten.fmtD c == .bf16 || Ten.fmtD c == .fp32 || Ten.fmtD c == .int32)

/-- The checks of MOVE in the modes COPY and FILL (R117, R134, R136). -/
def moveOk (d a c : Nat) : Bool :=
  Cmd.tb d == noTensor && Cmd.td d == noTensor && Cmd.tc d != noTensor && decide (Cmd.mround d < 2)
    && outScOk c
    && (if Cmd.mode d == 0 then
          Cmd.ta d != noTensor && inScOk a && (sameCopy a c || (convertOk (Ten.fmtD a) (Ten.fmtD c) && scaledDstOk c))
        else Cmd.ta d == noTensor && convertOk .fp32 (Ten.fmtD c) && scaledDstOk c)

/-- BARRIER and LOADREG name no tensor (R117, R135). -/
def noTensors (d : Nat) : Bool :=
  Cmd.ta d == noTensor && Cmd.tb d == noTensor && Cmd.tc d == noTensor && Cmd.td d == noTensor

def barrierOk (d : Nat) : Bool :=
  noTensors d && decide (Cmd.redop d ≤ 8) && decide (2 ≤ Cmd.bdst d) && decide (Cmd.bdst d ≤ 30)

def loadregOk (d : Nat) : Bool :=
  noTensors d && Cmd.lspace d != 3 && decide (2 ≤ Cmd.ldst d) && decide (Cmd.laddr d % 8 = 0)

/-- The descriptor checks of R136 that need the tables but no core: opcodes 1 to 8, MOVE in the modes 0 and 1. -/
def descOk (d : Nat) (tensors : List (Nat × Nat)) : Bool :=
  let t (n : Nat) : Nat := smGet 0 tensors n
  let a := t (Cmd.ta d)
  let b := t (Cmd.tb d)
  let c := t (Cmd.tc d)
  let td := t (Cmd.td d)
  let named := [Cmd.ta d, Cmd.tb d, Cmd.tc d, Cmd.td d].filter (· != noTensor)
  zeroAt d (reservedOf d) && named.all (fun n => tensorOk (t n)) &&
  match Cmd.opcode d with
    | 1 => Cmd.ta d != noTensor && Cmd.tb d != noTensor && Cmd.tc d != noTensor && matrixOk d a b c td
    | 2 => Cmd.ta d != noTensor && Cmd.tb d != noTensor && Cmd.tc d != noTensor && matrixOk d a b c td
    | 3 => Cmd.ta d != noTensor && Cmd.tc d != noTensor && windowOk d a b c
    | 4 => Cmd.ta d != noTensor && Cmd.tc d != noTensor && windowOk d a b c
    | 5 => Cmd.ta d != noTensor && Cmd.tc d != noTensor && vectorOk d a b c td
    | 6 => moveOk d a c
    | 7 => barrierOk d
    | 8 => loadregOk d
    | _ => false

/-! ## Core sets (R102, R308) -/

/-- The listed numbers of an entry FIRST, COUNT, STRIDE; one number past the last core is enough to refuse. -/
def coreSetListed (e : Nat) : List Nat :=
  let first := fld e 31 0
  let count := fld e 63 32
  let stride := fld e 95 64
  if stride = 0 then (if count = 0 then [] else [first])
  else (List.range (min count 80001)).map fun i => first + i * stride

/-- The distinct cores of a set in table order: the numbers never repeat once the stride is not zero. -/
def coreSet (e : Nat) : List Nat := coreSetListed e

/-- Does a context with this footprint hold a slot in the core (R304, R306)? -/
def holdsSlot (footprint core : Nat) : Bool := decide (core < 80000) && bit footprint (groupOf core)

/-! ## Core checks (R56, R133, R136) -/

/-- The product bound P and the headroom G of a fixed pair (R55). -/
def pairPG (fa fb : Fmt) : Int × Nat :=
  match fa, fb with
  | .fp4, _ => (6, 20)
  | .e4m3, .e4m3 => (18, 20)
  | .e5m2, .e5m2 => (32, 20)
  | .int8, _ => (15, 20)
  | .fp16, _ => (32, 15)
  | _, _ => (25, 20)

/-- K and FK fit the pair and the whole product (R56, R136). -/
def kOk (d : Nat) (fa fb : Fmt) (k : Nat) : Bool :=
  let fk := if Cmd.fullK d = 0 then k else Cmd.fullK d
  (fa == .bf16 || (decide (k ≤ 2 ^ (pairPG fa fb).2) && decide (fk ≤ 2 ^ (pairPG fa fb).2)))
    && (Cmd.fullK d == 0 || decide (Cmd.kBase d + k ≤ Cmd.fullK d))

/-- Every extent of `x` is 1 or that of C; reductions do not compare dimension 0 (R133). -/
def extentsOk (first : Nat) (x c : Tensor) : Bool :=
  (List.range 4).all fun n => decide (n < first) || x.ext n == 1 || x.ext n == c.ext n

end Sys2Proof.Machine
end

