-- ==== Sys2Proof/Machine/Matrix.lean ====
section
/-! DEFINITION. MATMUL and CONV on one core (R53-R70, R81-R88, R112-R128, R137-R139, R529-R531). -/

namespace Sys2Proof.Machine

/-! ## Padding of windows (R126, R127, R530) -/

/-- `fold_mirror` of R127. -/
def foldMirror (i : Int) (len : Nat) : Nat :=
  if len = 1 then 0
  else
    let p : Int := 2 * ((len : Int) - 1)
    let j := ((i % p) + p) % p
    if j < len then j.toNat else (p - j).toNat

/-- `fold_repeat` of R127. -/
def foldRepeat (i : Int) (len : Nat) : Nat := if i < 0 then 0 else if i < len then i.toNat else len - 1

/-- PAD_CONST in X's format, and whether it was a NaN made +0 (R530). -/
def padConst (f : Fmt) (bits : Nat) : Nat × Bool :=
  match f, f32 bits with
  | .int8, .nan => (0, true)
  | .fp4, .nan => (0, true)
  | .int8, v => ((finish .int8 .rne (condOf v)).bits, false)
  | f, v => ((outVal f .rne v).bits, false)

/-- What a window position reads: an element of X, or padding. -/
inductive XRead where
  | at (nb ih iw ci : Nat)
  | zero
  | const
  deriving DecidableEq, Repr

/-- `x_at` of R127: where position `(nb, ih, iw, ci)` reads. -/
def xRead (padMode h w : Nat) (nb : Nat) (ih iw : Int) (ci : Nat) : XRead :=
  if 0 ≤ ih ∧ ih < h ∧ 0 ≤ iw ∧ iw < w then .at nb ih.toNat iw.toNat ci
  else if padMode = 1 then .const
  else if padMode = 0 ∨ h = 0 ∨ w = 0 then .zero
  else if padMode = 2 then .at nb (foldMirror ih h) (foldMirror iw w) ci
  else .at nb (foldRepeat ih h) (foldRepeat iw w) ci

/-- Is the position inside the image (R130)? -/
def xInside (h w : Nat) (ih iw : Int) : Bool := decide (0 ≤ ih ∧ ih < h ∧ 0 ≤ iw ∧ iw < w)

def winPos (o s p k dil : Nat) : Int := (o * s : Nat) - (p : Int) + (k * dil : Nat)

/-! ## A matrix command on a core -/

/-- The command with its tensors open: extents, and M, N, K of R119 or R126. -/
structure Mm where
  d : Nat
  conv : Bool
  a : Tensor
  b : Tensor
  c : Tensor
  td : Tensor
  m : Nat
  n : Nat
  k : Nat
  deriving DecidableEq, Repr

def Mm.open (v : View) (r : Run) (d : Nat) : Mm :=
  let a := openTensor v r (Cmd.ta d)
  let b := openTensor v r (Cmd.tb d)
  let c := openTensor v r (Cmd.tc d)
  let td := openTensor v r (Cmd.td d)
  let conv := Cmd.opcode d == 2
  let k := if conv then a.ext 0 * b.ext 2 * b.ext 3 else if Cmd.transA d then a.rows else a.cols
  ⟨d, conv, a, b, c, td, c.rows, c.cols, k⟩

/-- FK of R120. -/
def Mm.fk (p : Mm) : Nat := if Cmd.fullK p.d = 0 then p.k else Cmd.fullK p.d

/-- Blocks whose scales are read (R120). -/
def Mm.blocks (p : Mm) : List Nat :=
  if Cmd.fullK p.d = 0 then
    (if p.k = 0 then [] else
      let b0 := Cmd.kBase p.d / 32
      (List.range ((Cmd.kBase p.d + p.k - 1) / 32 + 1 - b0)).map (· + b0))
  else List.range (cdiv (Cmd.fullK p.d) 32)

/-- What element `(m, k)` of the virtual A of a CONV reads (R126). -/
def Mm.xPos (p : Mm) (m k : Nat) : XRead :=
  let d := p.d
  let ci := p.a.ext 0
  let kwn := p.b.ext 2
  let ow := m % p.c.ext 1
  let oh := m / p.c.ext 1 % p.c.ext 2
  let nb := m / (p.c.ext 1 * p.c.ext 2)
  let kw := k / ci % kwn
  let kh := k / (ci * kwn)
  xRead (Cmd.padMode d) (p.a.ext 2) (p.a.ext 1) nb (winPos oh (Cmd.strideH d) (Cmd.padTop d) kh (Cmd.dilH d))
    (winPos ow (Cmd.strideW d) (Cmd.padLeft d) kw (Cmd.dilW d)) (k % ci)

/-- Bits of A's element for output row `m` and index `k`. -/
def Mm.aBits (p : Mm) (v : View) (r : Run) (m k : Nat) : Nat :=
  if p.conv then
    match p.xPos m k with
    | .at nb ih iw ci => getEl v r p.a [ci, iw, ih, nb]
    | .zero => 0
    | .const => (padConst p.a.fmt (Cmd.padConst p.d)).1
  else if Cmd.transA p.d then opRC v r p.a k m else opRC v r p.a m k

/-- Bits of B's element for index `k` and output column `n`. -/
def Mm.bBits (p : Mm) (v : View) (r : Run) (k n : Nat) : Nat :=
  if !p.conv && Cmd.transB p.d then opRC v r p.b n k else opRC v r p.b k n

/-- A block scale of one operand, 2^0 where it carries none (R52, R115). `onCols`: K runs along the columns. -/
def opScale (v : View) (r : Run) (t : Tensor) (nb : Nat) (onCols : Bool) (i j : Nat) : Option Int :=
  if Ten.scaled t.d then scaleExp (scaleByteAt v r t (if onCols then i * nb + j else j * t.cols + i)) else some 0

def addOpt (a b : Option Int) : Option Int := match a, b with
  | some x, some y => some (x + y)
  | _, _ => none

def maxOpt (l : List (Option Int)) : Option Int :=
  (l.filterMap id).foldl (fun m x => match m with
    | none => some x
    | some y => some (max x y)) none

/-- The scale of the X element that `(m, k)` of a CONV reads (R531). -/
def Mm.xScale (p : Mm) (v : View) (r : Run) (m k : Nat) : Option Int :=
  match p.xPos m k with
  | .at nb ih iw ci =>
    opScale v r p.a (cdiv (p.a.ext 0) 32) true (iw + p.a.ext 1 * (ih + p.a.ext 2 * nb)) (ci / 32)
  | _ => some 0

/-- The combined scale of block `j` for output `(m, n)` (R55, R58, R531); `none` where a scale is NaN. -/
def Mm.scaleAB (p : Mm) (v : View) (r : Run) (m n k j : Nat) : Option Int :=
  let nb := cdiv p.fk 32
  let sb := opScale v r p.b nb (!p.conv && Cmd.transB p.d) n j
  let sa := if p.conv then p.xScale v r m k else opScale v r p.a nb (!Cmd.transA p.d) m j
  addOpt sa sb

/-- The largest scale exponent of X over its view, or 0 under ZERO and CONST where 0 is larger (R531). -/
def Mm.xMaxScale (p : Mm) (v : View) (r : Run) : Int :=
  let nbx := cdiv (p.a.ext 0) 32
  let all := (List.range p.a.rows).flatMap fun i => (List.range nbx).map fun j => opScale v r p.a nbx true i j
  match maxOpt all with
  | none => 0
  | some e => if Cmd.padMode p.d = 0 ∨ Cmd.padMode p.d = 1 then max e 0 else e

/-- S of R55 and R531 for output `(m, n)`, and whether one of the scales read for it is NaN. -/
def Mm.maxScale (p : Mm) (v : View) (r : Run) (m n : Nat) : Int × Bool :=
  if !Ten.scaled p.a.d && !Ten.scaled p.b.d then (0, false)
  else if p.conv then
    let sb := p.blocks.map fun j => opScale v r p.b (cdiv p.fk 32) false n j
    (p.xMaxScale v r + (maxOpt sb).getD 0, sb.any (· == none))
  else
    let s := p.blocks.map fun j => p.scaleAB v r m n 0 j
    ((maxOpt s).getD 0, s.any (· == none))

def Mm.bf16 (p : Mm) : Bool := p.a.fmt == .bf16

/-- The governing sidecar bytes of output `(m, n)` (R61, R119, R128). -/
def Mm.scBytes (p : Mm) (v : View) (r : Run) (m n : Nat) : Nat × Nat :=
  (sidecarByte v r p.a (if !p.conv && Cmd.transA p.d then p.k + m else m),
   sidecarByte v r p.b (if !p.conv && Cmd.transB p.d then n else p.k + n))

/-- The frame exponent of output `(m, n)` (R55, R61), read before any product. -/
def Mm.frame (p : Mm) (v : View) (r : Run) (m n : Nat) : Int :=
  if p.k = 0 then
    (if p.bf16 || Ten.scaled p.a.d || Ten.scaled p.b.d then (Config.freeValue (m * 2 ^ 40 + n) 8 : Int) - 128
     else (pairPG p.a.fmt p.b.fmt).1 + (pairPG p.a.fmt p.b.fmt).2 - 95)
  else if p.bf16 then
    let (x, y) := p.scBytes v r m n
    ((max x 1 : Nat) : Int) - 126 + (((max y 1 : Nat) : Int) - 126) + clog2 p.fk + 1 - 95
  else (pairPG p.a.fmt p.b.fmt).1 + (p.maxScale v r m n).1 + (pairPG p.a.fmt p.b.fmt).2 - 95

/-- One output element's accumulator and the conditions met on the way (R58, R63, R69, R87). -/
structure Acc where
  sum : Int
  w : Int
  nan : Bool
  pinf : Bool
  ninf : Bool
  under : Bool
  lost : Bool
  gated : Nat
  deriving DecidableEq, Repr

/-- One product added (R58, R63, R87). -/
def Acc.product (x : Acc) (av bv : Val) (s : Option Int) (beyond : Bool) : Acc :=
  let x := if beyond then { x with under := true } else x
  let x := if s = none then { x with nan := true } else x
  match av, bv with
  | .fin na ma ea, .fin nb mb eb =>
    if ma = 0 ∨ mb = 0 then { x with gated := x.gated + 1 }
    else
      let sh := ea + eb + s.getD 0 - x.w
      let mag := ma * mb
      let t := if 0 ≤ sh then mag * 2 ^ sh.toNat else mag / 2 ^ (-sh).toNat
      let cut := decide (sh < 0) && mag % 2 ^ (-sh).toNat != 0
      { x with sum := if na = nb then x.sum + t else x.sum - t, lost := x.lost || cut }
  | .nan, _ => { x with nan := true }
  | _, .nan => { x with nan := true }
  | a, b =>
    if a.isZero || b.isZero then { x with nan := true }
    else if a.neg = b.neg then { x with pinf := true } else { x with ninf := true }

/-- An ACC96 element taken in (R122, R529). -/
def Acc.takeIn (x : Acc) (bits : Nat) : Acc :=
  let t := toSigned 96 bits
  let off := t + 2 ^ 95
  if 0 ≤ off ∧ off ≤ 2 ^ 15 then
    if off = 1 then { x with pinf := true } else if off = 2 then { x with ninf := true } else { x with nan := true }
  else { x with sum := x.sum + t }

/-- The accumulator of output `(m, n)` over the command's K (R119-R122). -/
def Mm.accumulate (p : Mm) (v : View) (r0 r : Run) (m n : Nat) : Acc :=
  let sc := if p.k != 0 && p.bf16 then p.scBytes v r0 m n else (0, 0)
  let nanScale := p.k != 0 && !p.bf16 && (p.maxScale v r0 m n).2
  let x0 : Acc := ⟨0, p.frame v r0 m n, nanScale, false, false, false, false, 0⟩
  let x := (List.range p.k).foldl (fun x k =>
    let ab := p.aBits v r m k
    let bb := p.bBits v r k n
    let beyond := p.bf16 && (decide (sc.1 < bf16Exp ab) || decide (sc.2 < bf16Exp bb))
    x.product (decodeEl p.a.fmt ab) (decodeEl p.b.fmt bb)
      (p.scaleAB v r0 m n k ((Cmd.kBase p.d + k) / 32)) beyond) x0
  if Cmd.accMode p.d = 2 then x.takeIn (getRC v r p.td m n) else x

/-- The accumulator's value (R54, R64): the 96-bit two's-complement integer, bit 95 of weight −2^95. -/
def Acc.value (x : Acc) : Int := toSigned 96 (ofSigned 96 x.sum)

/-- The condition of R69 that V meets; `c` is C's prior element where it is read (R65). -/
def accCond (x : Acc) (beta : Option Val) (c : Val) (t : Int) : Cond :=
  let bc : Cond := match beta with
    | none => .exact Q.zero
    | some b => mulCond b c
  if x.under || x.nan || bc == .nan then .nan
  else
    let p := x.pinf || bc == .inf false
    let n := x.ninf || bc == .inf true
    if p && n then .nan else if p then .inf false else if n then .inf true
    else
      let q := match bc with
        | .exact q => q
        | _ => Q.zero
      .exact ((((Q.ofInt x.value).scale x.w).add q).scale t)

/-- The epilogue functions of R123 on an FP32 value. -/
def epilogueFn (e alpha x : Nat) : Nat :=
  match e with
  | 1 => if (f32 x).isNan then 0x7FC00000 else if valPos (f32 x) then x else 0
  | 2 => if (f32 x).isNan then 0x7FC00000 else if (f32 x).isZero || valPos (f32 x) then x else f32Mul (alpha * 2 ^ 16) x
  | 3 => fnGelu x
  | 4 => fnSilu x
  | 5 => fnSigmoid x
  | _ => fnTanh x

/-- The 96-bit word of a PARTIAL_OUT element: the accumulator, or a marker of R529. -/
def Acc.word (x : Acc) : Nat :=
  if x.under || x.nan || (x.pinf && x.ninf) then 2 ^ 95
  else if x.pinf then 2 ^ 95 + 1 else if x.ninf then 2 ^ 95 + 2 else ofSigned 96 x.sum

def Acc.finite (x : Acc) : Bool := !x.under && !x.nan && !x.pinf && !x.ninf

/-- An output of the matrix unit (R65, R69). An INT32 output whose β is NaN or whose β × C is infinite has no entry in R69: its
value, and whether it counts as saturated, are free (DESIGN CHOICE, log 84). -/
def outOf (f : Fmt) (rnd : Rnd) (cond : Cond) (beta c : Nat) : Out :=
  match f, cond with
  | .int32, .exact q => finish .int32 rnd (.exact q)
  | .int32, _ => ⟨Config.int32Open beta c % 2 ^ 32, if bit (Config.int32Open beta c) 32 then .sat else .plain⟩
  | f, cond => finish f rnd cond

/-- The rounding stage of one output element (R65-R69, R122-R124, R151): the run after it and the bits written. `r0` is the run
before the write cycle of the element's 4 × 8 block, from which C's prior value is read: the elements of a block are written in
one cycle (R76, R138), and a read returns what stood before the writes of its cycle (R78; DEDUCED, log 37). An ACC96 element is
no output value and counts in 0x8030:02 alone (R74). -/
def Mm.roundOut (p : Mm) (v : View) (r0 r : Run) (m n : Nat) (x : Acc) : Run × Nat :=
  let d := p.d
  if Cmd.accMode d = 1 then
    let r := putRC v r p.c m n x.word
    (if x.under then r.bump 0x8030 0x02 1 else r, x.word)
  else
    let beta := if Cmd.accInto d && !(f32 (Cmd.beta d)).isZero then some (f32 (Cmd.beta d)) else none
    let prior := if beta = none || beta = some .nan then 0 else getRC v r0 p.c m n
    let c := if beta = none || beta = some .nan then Val.zero else decodeEl p.c.fmt prior
    let cond := accCond x beta c (Cmd.outScale d)
    let idx := m * p.n + n + (if Cmd.idxEn d then scalarReg v (Cmd.idxReg d) else 0)
    let rnd := rndOf v (Cmd.round d) (Cmd.layer d) idx
    let x32 := (finish .fp32 .rne cond).bits
    let e := Cmd.epilogue d
    let out := if e = 0 then outOf p.c.fmt rnd cond (Cmd.beta d) prior else outVal p.c.fmt rnd (f32 (epilogueFn e (Cmd.alpha d) x32))
    let r := putRC v r p.c m n out.bits
    let r := if e = 3 ∨ e = 4 then
        let code := sideCode (e == 3) x32
        (putRC v r p.td m n code).bump 0x8033 0x05 (if code = 0xFF then 1 else 0)
      else r
    let r := if x.under then r.bump 0x8030 0x02 1 else countOut r out.kind
    let lost := x.lost && (match cond with
      | .exact _ => true
      | _ => false)
    (r.bump 0x8030 0x01 (if lost then 1 else 0), out.bits)

/-! ## Tiles (R82, R112, R121) -/

def tileSize (d : Nat) : Nat := 8 * 2 ^ Cmd.tile d

/-- The predicate masks of the tile at `(m0, n0)` (R112). -/
def Mm.tileMasks (p : Mm) (m0 n0 : Nat) : Nat × Nat :=
  let t := tileSize p.d
  let mask (dm : Nat) (o lim : Nat) : Nat :=
    (List.range t).foldl (fun acc i => if bit dm i && decide (o + i < lim) then acc + 2 ^ i else acc) 0
  (mask (Ten.rowMask p.c.d) m0 p.m, mask (Ten.colMask p.c.d) n0 p.n)

/-- The unskipped 4 by 8 blocks of a tile in pass order (R82). -/
def tileBlocks (t rm cm : Nat) : List (Nat × Nat) :=
  (List.range (t / 4)).flatMap fun i => (List.range (t / 8)).filterMap fun j =>
    if fld rm (4 * i + 3) (4 * i) != 0 && fld cm (8 * j + 7) (8 * j) != 0 then some (i, j) else none

/-- The output elements of a tile in the order of R138. -/
def tileElems (m0 n0 rm cm : Nat) (blocks : List (Nat × Nat)) : List (Nat × Nat) :=
  blocks.flatMap fun (i, j) => (List.range 4).flatMap fun a => (List.range 8).filterMap fun b =>
    if bit rm (4 * i + a) && bit cm (8 * j + b) then some (m0 + 4 * i + a, n0 + 8 * j + b) else none

/-- K after step 4 of R121: the last chunk rounded up to a multiple of 8. -/
def paddedK (k tk : Nat) : Nat := k / tk * tk + roundUp (k % tk) 8

/-- One tile that claimed a bank (R85): the 4 × 8 blocks of its round-out, the cycles of its own prepass (R128), and the entries
of the bank that are not zero, by their place `row * T + column` in the tile (DESIGN CHOICE, log 86). -/
structure TileOut where
  blocks : Nat
  prepass : Nat
  accs : List (Nat × Nat)
  deriving DecidableEq, Repr

/-- What a matrix command leaves besides memory and counters: the last tile's masks, if a tile was formed (R112), the BF16
elements written, the tiles that claimed a bank, and whether a tile filled its operands, which none with K zero does (R121). -/
structure MmOut where
  run : Run
  masks : Option (Nat × Nat)
  els : List (Nat × Nat × Nat)
  tiles : List TileOut
  fills : Bool
  deriving DecidableEq, Repr

/-- One block of a tile's round-out: its elements read what stood before the block's write cycle (R78, R138). -/
def Mm.blockOut (p : Mm) (v : View) (s : Run × List (Nat × Nat × Nat)) (accs : List ((Nat × Nat) × Acc)) :
    Run × List (Nat × Nat × Nat) :=
  accs.foldl (fun (t : Run × List (Nat × Nat × Nat)) a =>
    let (r, bits) := p.roundOut v s.1 t.1 a.1.1 a.1.2 a.2
    (r, t.2 ++ [(a.1.1, a.1.2, bits)])) s

/-- One tile: its products first, then its round-out in write order (R121, R138). -/
def Mm.tile (p : Mm) (v : View) (r0 : Run) (o : MmOut) (m0 n0 : Nat) : MmOut :=
  let t := tileSize p.d
  let (rm, cm) := p.tileMasks m0 n0
  let blocks := tileBlocks t rm cm
  if blocks = [] then { o with masks := some (rm, cm) }
  else
    let accs := blocks.map fun b => (tileElems m0 n0 rm cm [b]).map fun e => (e, p.accumulate v r0 o.run e.1 e.2)
    let gated := accs.flatten.foldl (fun g a => g + a.2.gated + (if p.k = 0 then 0 else paddedK p.k (Cmd.tileK p.d) - p.k)) 0
    let (r, out) := accs.foldl (p.blockOut v) (o.run.bump 0x8031 0x01 gated, o.els)
    let rows := ((List.range t).filter fun i => bit rm i).length
    let entries := accs.flatten.map fun a => ((a.1.1 - m0) * t + (a.1.2 - n0), ofSigned 96 a.2.sum)
    ⟨r, some (rm, cm), out,
      o.tiles ++ [⟨blocks.length, if p.conv && p.bf16 && p.k != 0 then cdiv (rows * p.k) 32 else 0, entries⟩], p.k != 0⟩

/-- The scout's prepasses (R62, R114, R128). -/
def Mm.prepass (p : Mm) (v : View) (r : Run) : Run :=
  if p.k = 0 || !p.bf16 then r
  else if p.conv then
    let els := (List.range p.m).flatMap fun i => (List.range p.k).map fun k => (i, k, p.aBits v r i k)
    let mx := sidecarMax p.m p.k els
    let r := (putSidecar v r p.a mx.1 mx.2).bump 0x8030 0x03 1
    if Ten.scValid p.b.d then r else scoutPrepass v r p.b p.k p.n
  else
    let r := if Ten.scValid p.a.d then r
      else if Cmd.transA p.d then scoutPrepass v r p.a p.k p.m else scoutPrepass v r p.a p.m p.k
    if Ten.scValid p.b.d then r
    else if Cmd.transB p.d then scoutPrepass v r p.b p.n p.k else scoutPrepass v r p.b p.k p.n

/-- The references of R139, with the extents to which the command walks them. -/
def Mm.refs (p : Mm) : List (Tensor × List Nat) :=
  let cd := (p.c, walkDims p.c p.m p.n)
  let dd := if Cmd.td p.d = noTensor then [] else [(p.td, walkDims p.td p.m p.n)]
  if p.k = 0 then cd :: dd
  else if p.conv then
    (p.a, [p.a.ext 0, p.a.ext 1, p.a.ext 2, p.c.ext 3]) :: (p.b, walkDims p.b p.k p.n) :: cd :: dd
  else
    (p.a, if Cmd.transA p.d then walkDims p.a p.k p.m else walkDims p.a p.m p.k)
      :: (p.b, if Cmd.transB p.d then walkDims p.b p.n p.k else walkDims p.b p.k p.n) :: cd :: dd

/-- MATMUL or CONV on one core; `none` where a core check of R136 stops it. PAD_CONST is converted as the core begins (R530). -/
def runMatrix (v : View) (r : Run) (d : Nat) : Option MmOut :=
  let p := Mm.open v r d
  let nanPad := p.conv && Cmd.padMode d == 1 && (padConst p.a.fmt (Cmd.padConst d)).2
  let r := r.bump 0x8032 0x05 (b2n nanPad)
  if !kOk d p.a.fmt p.b.fmt p.k then none
  else if p.m = 0 ∨ p.n = 0 then some ⟨r.bump 0x8032 0x02 1, none, [], [], false⟩
  else
    let r0 := p.prepass v (countOver r p.refs)
    let t := tileSize d
    let o := (List.range (cdiv p.m t)).foldl (fun o i =>
      (List.range (cdiv p.n t)).foldl (fun o j => p.tile v r0 o (i * t) (j * t)) o) ⟨r0, none, [], [], false⟩
    if p.c.fmt = .bf16 then
      let mx := sidecarMax p.m p.n o.els
      some { o with run := putSidecar v o.run p.c mx.1 mx.2 }
    else some o

end Sys2Proof.Machine
end

