-- ==== Sys2Proof/Machine/Window.lean ====
section
/-! DEFINITION. The output walk shared by the vector unit, and the window path: CONV_GROUPED and POOL
(R89, R90, R125-R130, R137, R138). -/

namespace Sys2Proof.Machine

/-- The indices of linear element `l` of extents `e`, dimension 0 fastest (R138). -/
def unlinear (e : List Nat) (l : Nat) : List Nat :=
  let e0 := nth 1 e 0
  let e1 := nth 1 e 1
  let e2 := nth 1 e 2
  [l % e0, l / e0 % e1, l / (e0 * e1) % e2, l / (e0 * e1 * e2)]

def volume (e : List Nat) : Nat := e.foldl (· * ·) 1

/-- The row of the 2-D view that indices `ix` lie in (R110). -/
def viewRow (e ix : List Nat) : Nat := nth 0 ix 1 + nth 1 e 1 * (nth 0 ix 2 + nth 1 e 2 * nth 0 ix 3)

/-- One output element: the bits and how R74 counts it, and a side code where the command writes one. -/
structure OutEl where
  out : Out
  side : Option Nat
  deriving DecidableEq, Repr

/-- What an output walk leaves. -/
structure WalkOut where
  run : Run
  els : List (Nat × Nat × Nat)
  deriving DecidableEq, Repr

/-- Writes one element of the walk, with its side code and its counts (R74, R138, R151). -/
def writeEl (v : View) (c td : Tensor) (e : List Nat) (o : WalkOut) (l : Nat) (x : OutEl) : WalkOut :=
  let ix := unlinear e l
  let r := putEl v o.run c ix x.out.bits
  let r := match x.side with
    | none => r
    | some code => (putEl v r td ix code).bump 0x8033 0x05 (if code = 0xFF then 1 else 0)
  ⟨countOut r x.out.kind, if c.fmt = .bf16 then o.els ++ [(viewRow e ix, nth 0 ix 0, x.out.bits)] else o.els⟩

/-- The elements of one cycle: each is formed from what stood before the cycle's writes (R78; DEDUCED, log 37), then all are
written, the higher linear index last (R138). -/
def walkCycle (v : View) (c td : Tensor) (e : List Nat) (f : Run → Nat → Run × OutEl) (o : WalkOut) (ls : List Nat) : WalkOut :=
  let (ctr, xs) := ls.foldl (fun (a : List (Nat × Nat) × List (Nat × OutEl)) l =>
    let (r, x) := f { o.run with ctr := a.1 } l
    (r.ctr, a.2 ++ [(l, x)])) (o.run.ctr, [])
  xs.foldl (fun o p => writeEl v c td e o p.1 p.2) { o with run := { o.run with ctr := ctr } }

/-- The linear indices below `n` in cycles of `k`. -/
def cyclesOf (k n : Nat) : List (List Nat) :=
  (List.range (cdiv n k)).map fun i => (List.range (min k (n - i * k))).map fun j => i * k + j

/-- Every element of extents `e` in increasing linear index, cycle by cycle, then the sidecar of a BF16 output over its run-time
view (R113, R138). `f` forms an element from the run as it stands before the cycle's writes. For REDUCE_SUM and REDUCE_MAX the
sidecar covers C's run-time dimension 0, not the extent 1 that it counts as in the walk (DEDUCED from R113, log 37). -/
def outputWalk (v : View) (r : Run) (c td : Tensor) (e : List Nat) (cycles : List (List Nat)) (f : Run → Nat → Run × OutEl) :
    Run :=
  let o := cycles.foldl (walkCycle v c td e f) ⟨r, []⟩
  if c.fmt = .bf16 then
    let mx := sidecarMax c.rows c.cols o.els
    putSidecar v o.run c mx.1 mx.2
  else o.run

/-- A window position's value (R127, R530). -/
def windowVal (v : View) (r : Run) (d : Nat) (x : Tensor) (rd : XRead) : Val :=
  match rd with
  | .at nb ih iw ci => decodeEl x.fmt (getEl v r x [ci, iw, ih, nb])
  | .zero => Val.zero
  | .const => decodeEl x.fmt (padConst x.fmt (Cmd.padConst d)).1

/-- CONV_GROUPED on one core (R129); `none` where GROUPS does not divide CI or CO. -/
def runGrouped (v : View) (r : Run) (d : Nat) : Option Run :=
  let x := openTensor v r (Cmd.ta d)
  let w := openTensor v r (Cmd.tb d)
  let y := openTensor v r (Cmd.tc d)
  let g := Cmd.groups d
  if x.ext 0 % g != 0 || y.ext 0 % g != 0 then none
  else if volume y.exts = 0 then some (r.bump 0x8032 0x02 1)
  else
    let cg := x.ext 0 / g
    let cog := y.ext 0 / g
    let r := countOver r [(x, [x.ext 0, x.ext 1, x.ext 2, y.ext 3]), (w, [y.ext 0, cg, w.ext 2, w.ext 3]), (y, y.exts)]
    some <| outputWalk v r y y y.exts (cyclesOf 1 (volume y.exts)) fun r l =>
      let ix := unlinear y.exts l
      let co := nth 0 ix 0
      let addends := (List.range (w.ext 3)).flatMap fun kh => (List.range (w.ext 2)).flatMap fun kw =>
        (List.range cg).map fun cj =>
          let rd := xRead (Cmd.padMode d) (x.ext 2) (x.ext 1) (nth 0 ix 3)
            (winPos (nth 0 ix 2) (Cmd.strideH d) (Cmd.padTop d) kh (Cmd.dilH d))
            (winPos (nth 0 ix 1) (Cmd.strideW d) (Cmd.padLeft d) kw (Cmd.dilW d)) (co / cog * cg + cj)
          mulCond (windowVal v r d x rd) (decodeEl w.fmt (getEl v r w [co, cj, kw, kh]))
      (r, ⟨finish y.fmt (rndOf v (Cmd.round d) (Cmd.layer d) l) (anchoredSum addends), none⟩)

/-- POOL on one core (R130). -/
def runPool (v : View) (r : Run) (d : Nat) : Option Run :=
  let x := openTensor v r (Cmd.ta d)
  let y := openTensor v r (Cmd.tc d)
  if volume y.exts = 0 then some (r.bump 0x8032 0x02 1)
  else
    let r := countOver r [(x, [y.ext 0, x.ext 1, x.ext 2, y.ext 3]), (y, y.exts)]
    some <| outputWalk v r y y y.exts (cyclesOf 1 (volume y.exts)) fun r l =>
      let ix := unlinear y.exts l
      let pos := (List.range (Cmd.winH d)).flatMap fun kh => (List.range (Cmd.winW d)).map fun kw =>
        (winPos (nth 0 ix 2) (Cmd.strideH d) (Cmd.padTop d) kh (Cmd.dilH d),
         winPos (nth 0 ix 1) (Cmd.strideW d) (Cmd.padLeft d) kw (Cmd.dilW d))
      let pos := if Cmd.divMode d = 1 && Cmd.poolOp d != 0 then pos.filter fun q => xInside (x.ext 2) (x.ext 1) q.1 q.2 else pos
      let vals := pos.map fun q =>
        windowVal v r d x (xRead (Cmd.padMode d) (x.ext 2) (x.ext 1) (nth 0 ix 3) q.1 q.2 (nth 0 ix 0))
      let rnd := rndOf v (Cmd.round d) (Cmd.layer d) l
      if vals = [] then (r.bump 0x8032 0x04 1, ⟨⟨0, .plain⟩, none⟩)
      else if Cmd.poolOp d = 0 then (r, ⟨outVal y.fmt rnd (vals.tail.foldl valMax (vals.headD .nan)), none⟩)
      else
        let s := anchoredSum (vals.map condOf)
        (r, ⟨finish y.fmt rnd (if Cmd.poolOp d = 1 then condDiv s vals.length else s), none⟩)

end Sys2Proof.Machine
end

