-- ==== Sys2Proof/Machine/Vector.lean ====
section
/-! DEFINITION. The vector commands (R71, R72, R131-R133, R148-R159). -/

namespace Sys2Proof.Machine

/-! ## Exact signed values: the intermediate results of R149 before their one rounding -/

/-- NaN, an infinity, or a sign and an exact magnitude (a zero keeps its sign, as IEEE 754 has it, R71). -/
inductive Sv where
  | nan
  | inf (neg : Bool)
  | fin (neg : Bool) (mag : Q)
  deriving DecidableEq, Repr

def Sv.of : Val → Sv
  | .nan => .nan
  | .inf n => .inf n
  | .fin n m e => .fin n ((Q.ofInt m).scale e)

def Sv.isZero : Sv → Bool
  | .fin _ q => q.isZero
  | _ => false

def Sv.isNeg : Sv → Bool
  | .nan => false
  | .inf n => n
  | .fin n _ => n

def Sv.isNan : Sv → Bool
  | .nan => true
  | _ => false

def Sv.neg : Sv → Sv
  | .nan => .nan
  | .inf n => .inf (!n)
  | .fin n q => .fin (!n) q

/-- An exact value as a signed one; an exact zero is positive. -/
def Sv.ofQ (q : Q) : Sv := .fin q.isNeg q.abs

/-- The exact product; infinity times zero is NaN (R150). -/
def Sv.mul (a b : Sv) : Sv :=
  match a, b with
  | .nan, _ => .nan
  | _, .nan => .nan
  | .fin x p, .fin y q => .fin (x != y) (p.mul q)
  | x, y => if x.isZero || y.isZero then .nan else .inf (x.isNeg != y.isNeg)

/-- The exact sum; a zero sum is +0 unless both are -0. -/
def Sv.add (a b : Sv) : Sv :=
  match a, b with
  | .nan, _ => .nan
  | _, .nan => .nan
  | .inf x, .inf y => if x = y then .inf x else .nan
  | .inf x, _ => .inf x
  | _, .inf y => .inf y
  | .fin x p, .fin y q =>
    let s := (signQ x p).add (signQ y q)
    if s.isZero then .fin (x && y && p.isZero && q.isZero) Q.zero else Sv.ofQ s

/-- The output of one rounding of an exact signed value (R133, R150). -/
def Sv.out (f : Fmt) (rnd : Rnd) : Sv → Out
  | .nan => finish f rnd .nan
  | .inf n => finish f rnd (.inf n)
  | .fin n q => if q.isZero && f.isFloat then ⟨signBits f n 0, .plain⟩ else finish f rnd (.exact (signQ n q))

def Sv.one : Sv := .fin false Q.one

/-! ## Elementwise operations -/

/-- An input element as FP32 bits; the conversion is exact (R133). -/
def toF32 (f : Fmt) (bits : Nat) : Nat := (outVal .fp32 .rne (decodeEl f bits)).bits

/-- The FP32 result of an operation of R132 on FP32 inputs. -/
def vopF32 (op a b scalar alpha : Nat) : Nat :=
  match op with
  | 0x00 => a
  | 0x01 => f32Add a b
  | 0x02 => f32Sub a b
  | 0x03 => f32Mul a b
  | 0x04 => f32Fma a b scalar
  | 0x05 => (outVal .fp32 .rne (valMax (f32 a) (f32 b))).bits
  | 0x06 => (outVal .fp32 .rne (valMin (f32 a) (f32 b))).bits
  | 0x07 => epilogueFn 1 0 a
  | 0x08 => epilogueFn 2 alpha a
  | 0x09 => fnSigmoid a
  | 0x0A => fnTanh a
  | 0x0B => fnSoftplus a
  | 0x0C => fnExp a
  | 0x0D => fnLog a
  | 0x0E => fnRecip a
  | 0x0F => fnRsqrt a
  | 0x10 => fnGelu a
  | _ => fnSilu a

/-- The exact results of the backward functions with y in TB (R149, R150). -/
def bwdSv (op : Nat) (dy y : Val) (ySign : Bool) (alpha : Nat) : Sv :=
  let a := Sv.of dy
  let b := Sv.of y
  match op with
  | 0x20 => if valPos y then a else .fin false Q.zero
  | 0x21 => if y.isNan then .nan else if ySign then (Sv.of (decodeFp .bf16 alpha)).mul a else a
  | 0x22 => (a.mul b).mul (Sv.one.add b.neg)
  | 0x23 => a.mul (Sv.one.add (b.mul b).neg)
  | 0x24 => a.mul (Sv.of (f32 (fnOneMinusExp (outVal .fp32 .rne y).bits)))
  | _ => a.mul b

/-- Where A or B is read for output indices `ix`: an extent of 1 broadcasts (R133). -/
def broadcast (t : Tensor) (ix : List Nat) : List Nat :=
  (List.range 4).map fun n => if t.ext n = 1 then 0 else nth 0 ix n

/-- T of R156: `floor (p * 2^32)`. -/
def dropThreshold (p : Q) : Nat := (p.mul (Q.pow2 32)).floorAbs

/-- DROPOUT of one element (R156): the value, and whether it was drawn and dropped. -/
def dropout (p : Val) (draw : Nat) (a : Val) : Sv × Bool × Bool :=
  match p with
  | .nan => (.nan, false, false)
  | .inf true => (match a with
    | .nan => .nan
    | .inf _ => .nan
    | .fin n _ _ => .fin n Q.zero, false, false)
  | .inf false => (.fin false Q.zero, false, false)
  | .fin n m e =>
    let q := (Val.fin n m e).q
    let kept : Sv := match Sv.of a with
      | .fin s x => .fin s (x.div (Q.one.sub q))
      | x => x
    if q.isNeg || q.isZero then (kept, false, false)
    else if Q.one.le q then (.fin false Q.zero, false, false)
    else if draw < dropThreshold q then (.fin false Q.zero, true, true) else (kept, true, false)

/-- The FP32 bits of the largest of a row, NaN if any is (R132). -/
def rowMax (l : List Nat) : Nat :=
  match l with
  | [] => 0xFF800000
  | x :: xs => (outVal .fp32 .rne ((xs.map f32).foldl valMax (f32 x))).bits

/-- `e ^ (a - m)` within 1 ulp, for FP32 bits (R132 SOFTMAX). -/
def softExp (a m : Nat) : Nat :=
  match addCond (f32 a) (f32 m).negate with
  | .nan => 0x7FC00000
  | .inf n => if n then 0 else 0x7F800000
  | .exact q => freeUlp 0x1A 1 (a * 2 ^ 32 + m) (fnExpQ q)

/-- SOFTMAX of a row of FP32 bits: FP32 results (R132, R528). -/
def softmaxRow (l : List Nat) : List Nat :=
  let m := rowMax l
  let es := l.map fun a => softExp a m
  let s := (finish .fp32 .rne (anchoredSum (es.map fun e => condOf (f32 e)))).bits
  es.map fun e => f32Div e s

/-- SOFTMAX_BWD of a row: `y_i * (dY_i - s)` (R149). The sum s is rounded to FP32 to nearest even under any ROUND: R149 says
"rounded to FP32" and names no draw for it (DEDUCED, log 41). -/
def softmaxBwdRow (l : List (Val × Val)) : List Sv :=
  let s := f32 (finish .fp32 .rne (anchoredSum (l.map fun p => mulCond p.1 p.2))).bits
  l.map fun p => (Sv.of p.2).mul ((Sv.of p.1).add (Sv.of s).neg)

def isReduce (op : Nat) : Bool := op == 0x18 || op == 0x19

/-- The extents of the outputs: a reduction's dimension 0 counts as 1 (R133). -/
def vectorExts (op : Nat) (c : Tensor) : List Nat := if isReduce op then 1 :: c.exts.tail else c.exts

/-- The tensors of a VECTOR command, open. -/
structure Vec where
  d : Nat
  a : Tensor
  b : Tensor
  c : Tensor
  td : Tensor
  hasB : Bool
  deriving DecidableEq, Repr

/-- A's and B's values at output indices; B is SCALAR where TB names no tensor. -/
def Vec.aVal (p : Vec) (v : View) (r : Run) (ix : List Nat) : Nat := getEl v r p.a (broadcast p.a ix)
def Vec.bBits (p : Vec) (v : View) (r : Run) (ix : List Nat) : Nat :=
  if p.hasB then getEl v r p.b (broadcast p.b ix) else Cmd.scalar p.d
def Vec.bFmt (p : Vec) : Fmt := if p.hasB then p.b.fmt else .fp32

/-- A row of A along dimension 0, as FP32 bits. -/
def Vec.rowA (p : Vec) (v : View) (r : Run) (n : Nat) (ix : List Nat) : List Nat :=
  (List.range n).map fun i => toF32 p.a.fmt (p.aVal v r (i :: ix.tail))

/-- One element of a VECTOR command (R132, R149): the run after its counts, and the element. SCALED on an FP8 tensor of a VECTOR
command, or on an FP8 output of MATMUL or CONV, has no effect: the spec neither applies such scales nor refuses them (DESIGN
CHOICE, log 35). -/
def Vec.element (p : Vec) (v : View) (r : Run) (e : List Nat) (l : Nat) : Run × OutEl :=
  let d := p.d
  let op := Cmd.vop d
  let ix := unlinear e l
  let reg := if Cmd.vidxEn d then scalarReg v (Cmd.vidxReg d) else 0
  let rnd := rndOf v (Cmd.vround d) (Cmd.layer d) (l + reg)
  let f := p.c.fmt
  let plain (o : Out) : Run × OutEl := (r, ⟨o, none⟩)
  if op = 0x18 then
    plain (finish f rnd (anchoredSum ((p.rowA v r (p.a.ext 0) ix).map fun x => condOf (f32 x))))
  else if op = 0x19 then plain (outVal f rnd (f32 (rowMax (p.rowA v r (p.a.ext 0) ix))))
  else if op = 0x29 then
    let draw := dxmDraw v.seed 0 v.ctx v.step (Cmd.layer d) ((l + reg) % 2 ^ 40)
    let (x, drawn, dropped) := dropout (f32 (Cmd.scalar d)) draw (decodeEl p.a.fmt (p.aVal v r ix))
    ((r.bump 0x8033 0x02 (b2n drawn)).bump 0x8033 0x03 (b2n dropped), ⟨x.out f rnd, none⟩)
  else if op = 0x2A then
    let s := nth 0 ix (Ten.rank p.c.d) + reg
    if bit (getEl v r p.td [s / 8, 0, 0, 0]) (s % 8) then plain (outVal f rnd (decodeEl p.a.fmt (p.aVal v r ix)))
    else (r.bump 0x8033 0x04 1, ⟨⟨0, .plain⟩, none⟩)
  else if op = 0x27 ∨ op = 0x28 then
    let dv : Sv := match sideValue (getEl v r p.td ix) with
      | none => .nan
      | some q => Sv.ofQ q
    plain (((Sv.of (decodeEl p.a.fmt (p.aVal v r ix))).mul dv).out f rnd)
  else if 0x20 ≤ op then
    let bb := p.bBits v r ix
    plain ((bwdSv op (decodeEl p.a.fmt (p.aVal v r ix)) (decodeEl p.bFmt bb) (bit bb (p.bFmt.bits - 1))
      (Cmd.valpha d)).out f rnd)
  else
    let a := toF32 p.a.fmt (p.aVal v r ix)
    let x := vopF32 op a (toF32 p.bFmt (p.bBits v r ix)) (Cmd.scalar d) (Cmd.valpha d)
    (r, ⟨outVal f rnd (f32 x), if op = 0x10 ∨ op = 0x11 then some (sideCode (op == 0x10) a) else none⟩)

/-- SOFTMAX and SOFTMAX_BWD: each row is formed whole, then written. -/
def Vec.rowOutputs (p : Vec) (v : View) (r : Run) (e : List Nat) (row : Nat) : List Out :=
  let d := p.d
  let n := nth 1 e 0
  let ix := unlinear e (row * n)
  let reg := if Cmd.vidxEn d then scalarReg v (Cmd.vidxReg d) else 0
  let rnd (i : Nat) := rndOf v (Cmd.vround d) (Cmd.layer d) (row * n + i + reg)
  if Cmd.vop d = 0x1A then
    (softmaxRow (p.rowA v r n ix)).zipIdx.map fun (x, i) => outVal p.c.fmt (rnd i) (f32 x)
  else
    (softmaxBwdRow ((List.range n).map fun i =>
      (decodeEl p.a.fmt (p.aVal v r (i :: ix.tail)), decodeEl p.bFmt (p.bBits v r (i :: ix.tail))))).zipIdx.map
        fun (x, i) => x.out p.c.fmt (rnd i)

/-- The walks of R139; MASK_ROWS walks TD to its last sample's byte (R159). -/
def Vec.refs (p : Vec) (v : View) (e : List Nat) : List (Tensor × List Nat) :=
  let op := Cmd.vop p.d
  let reg := if Cmd.vidxEn p.d then scalarReg v (Cmd.vidxReg p.d) else 0
  (p.c, e) :: (p.a, p.a.exts) :: (if p.hasB then [(p.b, p.b.exts)] else [])
    ++ (if op = 0x2A then [(p.td, [(nth 1 e (Ten.rank p.c.d) - 1 + reg) / 8 + 1, 1, 1, 1])]
        else if vopTd op then [(p.td, e)] else [])

/-- Elements of a lane group (R132): 16 when A, C and B, where it is a tensor, are all 16 bits or narrower, else 8. -/
def Vec.lanes (p : Vec) : Nat :=
  if p.a.fmt.bits ≤ 16 && p.c.fmt.bits ≤ 16 && (!p.hasB || decide (p.b.fmt.bits ≤ 16)) then 16 else 8

/-- A VECTOR command on one core; `none` where an extent breaks R133. -/
def runVector (v : View) (r : Run) (d : Nat) : Option Run :=
  let op := Cmd.vop d
  let hasB := Cmd.tb d != noTensor
  let p : Vec := ⟨d, openTensor v r (Cmd.ta d), openTensor v r (Cmd.tb d), openTensor v r (Cmd.tc d),
    openTensor v r (Cmd.td d), hasB⟩
  let first := if isReduce op then 1 else 0
  let e := vectorExts op p.c
  if !extentsOk first p.a p.c || (hasB && !extentsOk first p.b p.c) then none
  else if volume e = 0 then some (r.bump 0x8032 0x02 1)
  else
    let r := countOver r (p.refs v e)
    if op = 0x1A ∨ op = 0x26 then
      let n := nth 1 e 0
      let o := (List.range (volume e / n)).foldl (fun (o : WalkOut) row =>
        (p.rowOutputs v o.run e row).zipIdx.foldl (fun (o : WalkOut) (x : Out × Nat) =>
          writeEl v p.c p.td e o (row * n + x.2) ⟨x.1, none⟩) o) ⟨r, []⟩
      if p.c.fmt = .bf16 then
        let mx := sidecarMax p.c.rows p.c.cols o.els
        some (putSidecar v o.run p.c mx.1 mx.2)
      else some o.run
    else some (outputWalk v r p.c p.td e (cyclesOf (if isReduce op then 1 else p.lanes) (volume e)) fun r l => p.element v r e l)

end Sys2Proof.Machine
end

