-- ==== Sys2Proof/Machine/Move.lean ====
section
/-! DEFINITION. MOVE in the modes COPY and FILL on one core, and LOADREG (R134, R135, R532). -/

namespace Sys2Proof.Machine

/-- A value after a block scale is applied; a NaN scale makes it NaN (R52). -/
def Sv.scaleBy (x : Sv) (s : Option Int) : Sv :=
  match s, x with
  | none, _ => .nan
  | some e, .fin n q => .fin n (q.scale e)
  | some _, x => x

/-- The exact source value at the destination's indices, its scales applied; `rows` is the destination's row. -/
def copySource (v : View) (r : Run) (a : Tensor) (row : Nat) (ix : List Nat) : Sv :=
  let x := Sv.of (decodeEl a.fmt (getEl v r a ix))
  if Ten.scaled a.d then
    x.scaleBy (scaleExp (scaleByteAt v r a (row * cdiv (a.ext 0) 32 + nth 0 ix 0 / 32)))
  else x

/-- One conversion of the COPY table (R134): the output, and whether it was a NaN made integer 0. -/
def convertOut (f : Fmt) (rnd : Rnd) (x : Sv) : Out × Bool :=
  if f = .int8 ∨ f = .int32 then (x.out f .rne, x.isNan) else (x.out f rnd, false)

/-- The exponent of R72 for a finite nonzero value. -/
def Sv.exp? : Sv → Option Int
  | .fin _ q => if q.isZero then none else some (exactExp q)
  | _ => none

/-- m of R532. -/
def scaleShift : Fmt → Int
  | .e4m3 => 8
  | .e5m2 => 15
  | _ => 7

/-- The scale byte of a destination block (R532). A value beyond 0xFE is one that the spec does not give: free. -/
def blockScale (f : Fmt) (xs : List Sv) : Nat :=
  if xs.any (·.isNan) then 0xFF
  else
    let e := (xs.filterMap (·.exp?)).foldl max (-125)
    let s := max (e - scaleShift f) (-127) + 127
    if s ≤ 0xFE then s.toNat else Config.freeValue s.toNat 8 % 255

/-- One element of a block with scale byte `s` (R532). -/
def blockElem (f : Fmt) (rnd : Rnd) (s : Nat) (x : Sv) : Out :=
  if s = 0xFF then ⟨0, if x.isNan && f != .int8 then .nan else .plain⟩
  else (x.scaleBy (some (127 - (s : Int)))).out f rnd

/-- The elements of one destination block: linear indices `l0` to `l0 + n - 1` of row `row`. -/
def moveBlock (v : View) (c : Tensor) (d : Nat) (fill : Bool) (src : Run → List Nat → Nat → Sv) (row nb j l0 n : Nat)
    (o : WalkOut) : WalkOut :=
  let xs := (List.range n).map fun i => src o.run (unlinear c.exts (l0 + i)) row
  let s := blockScale c.fmt xs
  let r := putByte v o.run (Ten.scaleSpace c.d) (Ten.scaleAddr c.d + c.base + row * nb + j) (BitVec.ofNat 8 s)
  xs.zipIdx.foldl (fun o (x, i) =>
    let l := l0 + i
    let out := blockElem c.fmt (rndOf v (Cmd.mround d) (Cmd.layer d) (if fill then 0 else l)) s x
    let o := writeEl v c c c.exts o l ⟨out, none⟩
    { o with run := o.run.bump 0x8032 0x05 (if c.fmt == .int8 && x.isNan then 1 else 0) }) { o with run := r }

/-- A converting COPY or a FILL into a SCALED destination, block by block (R532). -/
def moveScaled (v : View) (r : Run) (c : Tensor) (d : Nat) (fill : Bool) (src : Run → List Nat → Nat → Sv) : Run :=
  let e0 := c.ext 0
  let nb := cdiv e0 32
  ((List.range c.rows).foldl (fun o row => (List.range nb).foldl (fun o j =>
    moveBlock v c d fill src row nb j (row * e0 + 32 * j) (min 32 (e0 - 32 * j)) o) o) (⟨r, []⟩ : WalkOut)).run

/-- Block scales copied where both tensors are SCALED (R134). -/
def copyScales (v : View) (r : Run) (a c : Tensor) : Run :=
  let nbc := cdiv (c.ext 0) 32
  let nba := cdiv (a.ext 0) 32
  (List.range c.rows).foldl (fun r row => (List.range nbc).foldl (fun r j =>
    putByte v r (Ten.scaleSpace c.d) (Ten.scaleAddr c.d + c.base + row * nbc + j)
      (BitVec.ofNat 8 (scaleByteAt v r a (row * nba + j)))) r) r

/-- The one 64-byte line that a list of addresses lies in, if it is one. -/
def oneLine (l : List Nat) : Option Nat :=
  match l with
  | [] => none
  | a :: r => if r.all fun b => b / 64 == a / 64 then some (a / 64) else none

/-- The cycles of a COPY (R134): in one of them it reads at most one 64-byte source line and writes at most one destination
line, so consecutive elements share a cycle while both lines stay the same. -/
def copyCycles (v : View) (a c : Tensor) : List (List Nat) :=
  let key (l : Nat) : Option (Nat × Nat) :=
    let ix := unlinear c.exts l
    match oneLine (elemAddrs v a ix), oneLine (elemAddrs v c ix) with
    | some x, some y => some (x, y)
    | _, _ => none
  ((List.range (volume c.exts)).foldl (fun (acc : List (List Nat) × Option (Nat × Nat)) l =>
    let k := key l
    match acc.1, k.isSome && acc.2 == k with
    | g :: r, true => ((l :: g) :: r, k)
    | gs, _ => ([l] :: gs, k)) ([], none)).1.reverse.map List.reverse

/-- COPY on one core. -/
def runCopy (v : View) (r : Run) (d : Nat) : Run :=
  let a := openTensor v r (Cmd.ta d)
  let c := openTensor v r (Cmd.tc d)
  if volume c.exts = 0 then r.bump 0x8032 0x02 1
  else
    let r := countOver r [(c, c.exts), (a, c.exts)]
    let src (r : Run) (ix : List Nat) (row : Nat) : Sv := copySource v r a row ix
    if sameCopy a.d c.d then
      let r := outputWalk v r c c c.exts (copyCycles v a c) fun r l => (r, ⟨⟨getEl v r a (unlinear c.exts l), .plain⟩, none⟩)
      if Ten.scaled c.d then copyScales v r a c else r
    else if Ten.scaled c.d then moveScaled v r c d false src
    else outputWalk v r c c c.exts (copyCycles v a c) fun r l =>
      let ix := unlinear c.exts l
      let (o, nan0) := convertOut c.fmt (rndOf v (Cmd.mround d) (Cmd.layer d) l) (src r ix (viewRow c.exts ix))
      (r.bump 0x8032 0x05 (b2n nan0), ⟨o, none⟩)

/-- FILL on one core: one conversion, written to every element. -/
def runFill (v : View) (r : Run) (d : Nat) : Run :=
  let c := openTensor v r (Cmd.tc d)
  let x := Sv.of (f32 (Cmd.scalar d))
  if volume c.exts = 0 then r.bump 0x8032 0x02 1
  else
    let r := countOver r [(c, c.exts)]
    if Ten.scaled c.d then moveScaled v r c d true (fun _ _ _ => x)
    else
      let (o, nan0) := convertOut c.fmt (rndOf v (Cmd.mround d) (Cmd.layer d) 0) x
      outputWalk v (r.bump 0x8032 0x05 (b2n nan0)) c c c.exts (cyclesOf 1 (volume c.exts)) fun r _ => (r, ⟨o, none⟩)

/-- The word a LOADREG reads on one core (R135). -/
def loadregWord (v : View) (r : Run) (d : Nat) : Nat := leNat (getBytes v r (Cmd.lspace d) (Cmd.laddr d) 8)

end Sys2Proof.Machine
end

