-- ==== Sys2Proof/Machine/Accesses.lean ====
section
/-! DEFINITION. The bytes that a core command accesses, in the order in which its streams walk them, and the accesses that they
make up (R76, R92, R109-R115, R119-R121, R128, R134, R237, R251). -/

namespace Sys2Proof.Machine

/-- One byte accessed: its flat address, whether it is written, and the stream it belongs to: 0 A, 1 B, 2 C written, 3 TD, 4 C
read; with 16 added its scales, with 32 its sidecar, with 48 its bound words, or the word of a LOADREG. -/
structure Touch where
  addr : Nat
  write : Bool
  op : Nat
  deriving DecidableEq, Repr

/-- One access: the bytes that a stream touches of one 64-byte line, one after the other (log 46). -/
structure LineAccess where
  line : Nat
  op : Nat
  write : Bool
  bytes : List Nat
  deriving DecidableEq, Repr

/-- A byte added to the accesses, newest first: to the latest access of its stream where that has the same line, else as a new
one. -/
def addTouch (t : Touch) : List LineAccess → List LineAccess → List LineAccess
  | acc, [] => ⟨lineBase t.addr, t.op, t.write, [t.addr]⟩ :: acc
  | acc, a :: r =>
    if a.op = t.op && a.write == t.write then
      if a.line = lineBase t.addr then acc.take (acc.length - (r.length + 1)) ++ { a with bytes := t.addr :: a.bytes } :: r
      else ⟨lineBase t.addr, t.op, t.write, [t.addr]⟩ :: acc
    else addTouch t acc r

/-- The accesses that a walk of bytes makes up, in the order of their first bytes. -/
def accessesOf (l : List Touch) : List LineAccess := (l.foldl (fun acc t => addTouch t acc acc) []).reverse

/-- A run of bytes as touches. -/
def touchRun (a n : Nat) (write : Bool) (op : Nat) : List Touch := (List.range n).map fun i => ⟨a + i, write, op⟩

/-! ## Tensors -/

/-- The bytes of one element. -/
def elTouches (v : View) (t : Tensor) (ix : List Nat) (write : Bool) (op : Nat) : List Touch :=
  (if t.fmt = .fp4 then [flat v (Ten.space t.d) (elemOff t ix).1] else elemAddrs v t ix).map fun a => Touch.mk a write op

/-- Those of an element of the matrix view; an empty view has none (R110). -/
def rcTouches (v : View) (t : Tensor) (row col : Nat) (write : Bool) (op : Nat) : List Touch :=
  if t.empty then [] else elTouches v t (t.idx row col) write op

/-- Those of an element of A or B, whose extents along M, N and, for B, K are not read (R119). -/
def opTouches (v : View) (t : Tensor) (row col op : Nat) : List Touch :=
  if t.unsplit then [] else elTouches v t (t.idx row col) false op

/-- Bytes of a tensor's scale array, by index. -/
def scaleTouches (v : View) (t : Tensor) (is : List Nat) (write : Bool) (op : Nat) : List Touch :=
  if Ten.scaled t.d then
    is.map fun i => Touch.mk (flat v (Ten.scaleSpace t.d) (Ten.scaleAddr t.d + t.base + i)) write (op + 16)
  else []

/-- Byte `i` of a tensor's sidecar. -/
def sideTouch (v : View) (t : Tensor) (write : Bool) (op i : Nat) : Touch :=
  ⟨flat v (Ten.scSpace t.d) (Ten.scAddr t.d + t.base + i), write, op + 32⟩

/-- The padded sidecar of `n` entries, written (R113). -/
def sideStore (v : View) (t : Tensor) (n op : Nat) : List Touch :=
  if t.fmt = .bf16 then (List.range (roundUp n 64)).map (sideTouch v t true op) else []

/-- The bound words of those of a tensor's dimensions `dims` that a word bounds (R111). -/
def boundTouches (v : View) (t : Tensor) (dims : List Nat) (op : Nat) : List Touch :=
  (dims.filter fun n => n ≤ Ten.rank t.d && Ten.boundSrc t.d n == 2).flatMap fun n =>
    (List.range 4).map fun i => Touch.mk (flat v (Ten.boundSpace t.d) (Ten.boundAddr t.d + 4 * n + i)) false (op + 48)

def allDims : List Nat := [0, 1, 2, 3]

/-- The dimensions between 0 and the outermost: those that split a row index (R110). -/
def Tensor.inner (t : Tensor) : List Nat := [1, 2].filter fun n => decide (n < Ten.rank t.d)

/-! ## MATMUL and CONV -/

/-- The extents of A and B that the command reads (R119, R126, R531). -/
def Mm.aDims (p : Mm) : List Nat :=
  if p.conv then (if Ten.scaled p.a.d then allDims else [0, 1, 2])
  else if Cmd.transA p.d then (if Ten.scaled p.a.d then allDims else [1, 2, 3]) else 0 :: p.a.inner

def Mm.bDims (p : Mm) : List Nat :=
  if p.conv then (if Ten.scaled p.b.d then allDims else [1, 2, 3])
  else if Ten.scaled p.b.d && !Cmd.transB p.d then 0 :: p.b.inner else p.b.inner

/-- The scale bytes that a matrix command reads of its operand A or B, by index (R55, R120, R531). -/
def Mm.scaleIdx (p : Mm) (ofB : Bool) : List Nat :=
  if !ofB && p.conv then List.range (p.a.rows * cdiv (p.a.ext 0) 32)
  else
    let onCols := if ofB then !p.conv && Cmd.transB p.d else !Cmd.transA p.d
    let cols := if ofB then p.b.cols else p.a.cols
    (List.range (if ofB then p.n else p.m)).flatMap fun i => p.blocks.map fun j =>
      if onCols then i * cdiv p.fk 32 + j else j * cols + i

/-- The element of A for output row `m` and index `k`; padding reads nothing (R127). -/
def Mm.aTouch (p : Mm) (v : View) (m k : Nat) : List Touch :=
  if p.conv then
    match p.xPos m k with
    | .at nb ih iw ci => elTouches v p.a [ci, iw, ih, nb] false 0
    | _ => []
  else if Cmd.transA p.d then opTouches v p.a k m 0 else opTouches v p.a m k 0

/-- The element of B for index `k` and output column `n`. -/
def Mm.bTouch (p : Mm) (v : View) (k n : Nat) : List Touch :=
  if !p.conv && Cmd.transB p.d then opTouches v p.b n k 1 else opTouches v p.b k n 1

/-- The scout's prepasses: they read an operand whole and write its sidecar (R62, R114, R128). -/
def Mm.prepassTouches (p : Mm) (v : View) : List Touch :=
  if p.bf16 then
    (if Ten.scValid p.a.d then [] else
      ((List.range p.m).flatMap fun m => (List.range p.k).flatMap (p.aTouch v m)) ++ sideStore v p.a (p.m + p.k) 0)
    ++ (if Ten.scValid p.b.d then [] else
      ((List.range p.n).flatMap fun n => (List.range p.k).flatMap fun k => p.bTouch v k n) ++ sideStore v p.b (p.k + p.n) 1)
  else []

/-- The sidecar bytes that govern the outputs of rows `rows` and columns `cols` (R61, R119, R128). -/
def Mm.scTouches (p : Mm) (v : View) (rows cols : List Nat) : List Touch :=
  if p.bf16 && p.k != 0 then
    (rows.map fun m => sideTouch v p.a false 0 (if !p.conv && Cmd.transA p.d then p.k + m else m))
      ++ cols.map fun n => sideTouch v p.b false 1 (if !p.conv && Cmd.transB p.d then n else p.k + n)
  else []

/-- The round-out of one block: C where β × C is added (R65), TD as a partial input, C written, TD's side codes (R151). -/
def Mm.blockTouches (p : Mm) (v : View) (els : List (Nat × Nat)) : List Touch :=
  let all (t : Tensor) (write : Bool) (op : Nat) : List Touch := els.flatMap fun q => rcTouches v t q.1 q.2 write op
  let beta := f32 (Cmd.beta p.d)
  (if Cmd.accInto p.d && !beta.isZero && !beta.isNan then all p.c false 4 else [])
    ++ all p.c true 2 ++ (if Cmd.epilogue p.d = 3 ∨ Cmd.epilogue p.d = 4 then all p.td true 3 else [])

/-- One tile (R82, R121): for each chunk of K the passes of its blocks, each with the rows of A and the columns of B that its
masks leave; then the round-out. -/
def Mm.tileTouches (p : Mm) (v : View) (m0 n0 : Nat) : List Touch :=
  let t := tileSize p.d
  let (rm, cm) := p.tileMasks m0 n0
  let blocks := tileBlocks t rm cm
  let rows (i : Nat) : List Nat := ((List.range 4).filter fun a => bit rm (4 * i + a)).map (m0 + 4 * i + ·)
  let cols (j : Nat) : List Nat := ((List.range 8).filter fun b => bit cm (8 * j + b)).map (n0 + 8 * j + ·)
  let pass (c : Nat) (b : Nat × Nat) : List Touch :=
    let ks := (List.range (min (Cmd.tileK p.d) (p.k - c * Cmd.tileK p.d))).map (c * Cmd.tileK p.d + ·)
    ((rows b.1).flatMap fun m => ks.flatMap (p.aTouch v m)) ++ (cols b.2).flatMap fun n => ks.flatMap fun k => p.bTouch v k n
  (blocks.flatMap fun b => p.scTouches v (rows b.1) (cols b.2))
    ++ (if Cmd.accMode p.d = 2 then blocks.flatMap fun b => (tileElems m0 n0 rm cm [b]).flatMap fun q =>
          rcTouches v p.td q.1 q.2 false 3 else [])
    ++ ((List.range (cdiv p.k (Cmd.tileK p.d))).flatMap fun c => blocks.flatMap (pass c))
    ++ blocks.flatMap fun b => p.blockTouches v (tileElems m0 n0 rm cm [b])

def Mm.touches (p : Mm) (v : View) : List Touch :=
  let bounds := boundTouches v p.a p.aDims 0 ++ boundTouches v p.b p.bDims 1 ++ boundTouches v p.c allDims 2
    ++ (if Cmd.td p.d = noTensor then [] else boundTouches v p.td allDims 3)
  if p.m = 0 ∨ p.n = 0 then bounds
  else
    let t := tileSize p.d
    bounds ++ (if p.k = 0 then [] else
        scaleTouches v p.a (p.scaleIdx false) false 0 ++ scaleTouches v p.b (p.scaleIdx true) false 1 ++ p.prepassTouches v)
      ++ ((List.range (cdiv p.m t)).flatMap fun i => (List.range (cdiv p.n t)).flatMap fun j => p.tileTouches v (i * t) (j * t))
      ++ sideStore v p.c (p.c.rows + p.c.cols) 2

/-! ## The vector unit and the window path -/

/-- An output walk: the reads of a cycle, then its writes (R138), then the sidecar (R113). -/
def walkTouches (v : View) (c : Tensor) (e : List Nat) (cycles : List (List Nat)) (side : Option Tensor)
    (reads : List Nat → List Touch) : List Touch :=
  (cycles.flatMap fun ls =>
    let ix := ls.map (unlinear e)
    reads ls ++ (ix.flatMap fun i => elTouches v c i true 2)
      ++ match side with
        | some td => ix.flatMap fun i => elTouches v td i true 3
        | none => []) ++ sideStore v c (c.rows + c.cols) 2

/-- What a window command reads for output element `l` (R126, R129, R130): `kh` by `kw` positions, the inside ones only where
`inside`; one channel for POOL, the group's for CONV_GROUPED, whose weights `w` come with them. -/
def windowTouches (v : View) (d kh kw : Nat) (inside : Bool) (x y : Tensor) (w : Option Tensor) (l : Nat) : List Touch :=
  let ix := unlinear y.exts l
  let co := nth 0 ix 0
  let cg := x.ext 0 / Cmd.groups d
  let chans := match w with
    | some _ => (List.range cg).map fun cj => (cj, co / (y.ext 0 / Cmd.groups d) * cg + cj)
    | none => [(0, co)]
  (List.range kh).flatMap fun i => (List.range kw).flatMap fun j =>
    let ih := winPos (nth 0 ix 2) (Cmd.strideH d) (Cmd.padTop d) i (Cmd.dilH d)
    let iw := winPos (nth 0 ix 1) (Cmd.strideW d) (Cmd.padLeft d) j (Cmd.dilW d)
    if inside && !xInside (x.ext 2) (x.ext 1) ih iw then []
    else chans.flatMap fun q =>
      (match xRead (Cmd.padMode d) (x.ext 2) (x.ext 1) (nth 0 ix 3) ih iw q.2 with
        | .at nb ih iw ci => elTouches v x [ci, iw, ih, nb] false 0
        | _ => [])
      ++ match w with
        | some w => elTouches v w [co, q.1, j, i] false 1
        | none => []

/-- The row of A, and of B where it is read with it, that output element `l` of a reduction or a softmax needs. -/
def Vec.rowTouches (p : Vec) (v : View) (e : List Nat) (n l : Nat) (withB : Bool) : List Touch :=
  let ix := unlinear e l
  ((List.range n).flatMap fun i => elTouches v p.a (broadcast p.a (i :: ix.tail)) false 0)
    ++ if withB && p.hasB then (List.range n).flatMap fun i => elTouches v p.b (broadcast p.b (i :: ix.tail)) false 1 else []

/-- Does the operation read B (R132, R149)? -/
def vopReadsB (op : Nat) : Bool := (decide (1 ≤ op) && decide (op ≤ 6)) || (decide (0x20 ≤ op) && decide (op ≤ 0x25))

/-- What one output element of an elementwise operation reads. -/
def Vec.elReads (p : Vec) (v : View) (e : List Nat) (l : Nat) : List Touch :=
  let op := Cmd.vop p.d
  let ix := unlinear e l
  let reg := if Cmd.vidxEn p.d then scalarReg v (Cmd.vidxReg p.d) else 0
  (if op = 0x2A then elTouches v p.td [(nth 0 ix (Ten.rank p.c.d) + reg) / 8, 0, 0, 0] false 3
    else if op = 0x27 ∨ op = 0x28 then elTouches v p.td ix false 3 else [])
  ++ elTouches v p.a (broadcast p.a ix) false 0
  ++ if p.hasB && vopReadsB op then elTouches v p.b (broadcast p.b ix) false 1 else []

def Vec.touches (p : Vec) (v : View) : List Touch :=
  let op := Cmd.vop p.d
  let e := vectorExts op p.c
  let bounds := boundTouches v p.a allDims 0 ++ (if p.hasB then boundTouches v p.b allDims 1 else []) ++ boundTouches v p.c allDims 2
  let n := nth 1 e 0
  if volume e = 0 then bounds
  else if op = 0x1A ∨ op = 0x26 then
    bounds ++ walkTouches v p.c e (cyclesOf n (volume e)) none fun ls => p.rowTouches v e n (ls.headD 0) (op == 0x26)
  else if isReduce op then
    bounds ++ walkTouches v p.c e (cyclesOf 1 (volume e)) none fun ls => p.rowTouches v e (p.a.ext 0) (ls.headD 0) false
  else
    bounds ++ walkTouches v p.c e (cyclesOf p.lanes (volume e)) (if op = 0x10 ∨ op = 0x11 then some p.td else none)
      fun ls => ls.flatMap (p.elReads v e)

/-! ## MOVE, LOADREG, and all of them -/

/-- The scale bytes that a COPY or FILL reads of its source or writes of its destination, by index (R134). -/
def moveScales (c t : Tensor) : List Nat :=
  (List.range c.rows).flatMap fun i => (List.range (cdiv (c.ext 0) 32)).map fun j => i * cdiv (t.ext 0) 32 + j

def moveTouches (v : View) (a c : Tensor) (fill : Bool) : List Touch :=
  let bounds := (if !fill && Ten.scaled a.d then boundTouches v a [0] 0 else []) ++ boundTouches v c allDims 2
  if volume c.exts = 0 then bounds
  else
    bounds ++ (if fill then [] else scaleTouches v a (moveScales c a) false 0)
      ++ walkTouches v c c.exts (if fill then cyclesOf 1 (volume c.exts) else copyCycles v a c) none
          (fun ls => if fill then [] else ls.flatMap fun l => elTouches v a (unlinear c.exts l) false 0)
      ++ scaleTouches v c (moveScales c c) true 2

/-- The bytes that a command accesses on one core, stream by stream in the order in which they are walked. -/
def coreTouches (v : View) (r : Run) (d : Nat) : List Touch :=
  let a := openTensor v r (Cmd.ta d)
  let b := openTensor v r (Cmd.tb d)
  let c := openTensor v r (Cmd.tc d)
  match Cmd.opcode d with
  | 1 | 2 => (Mm.open v r d).touches v
  | 3 =>
    boundTouches v a [0, 1, 2] 0 ++ boundTouches v b [2, 3] 1 ++ boundTouches v c allDims 2 ++
      if volume c.exts = 0 then [] else walkTouches v c c.exts (cyclesOf 1 (volume c.exts)) none fun ls =>
        ls.flatMap (windowTouches v d (b.ext 3) (b.ext 2) false a c (some b))
  | 4 =>
    boundTouches v a [0, 1, 2] 0 ++ boundTouches v c allDims 2 ++
      if volume c.exts = 0 then [] else walkTouches v c c.exts (cyclesOf 1 (volume c.exts)) none fun ls =>
        ls.flatMap (windowTouches v d (Cmd.winH d) (Cmd.winW d) (Cmd.divMode d == 1 && Cmd.poolOp d != 0) a c none)
  | 5 => Vec.touches ⟨d, a, b, c, openTensor v r (Cmd.td d), Cmd.tb d != noTensor⟩ v
  | 6 => moveTouches v a c (Cmd.mode d == 1)
  | 8 => touchRun (flat v (Cmd.lspace d) (Cmd.laddr d)) 8 false 48
  | _ => []

/-- Is a touch one of the walk of a tensor (R242), not of its scales, its sidecar or a bound? -/
def Touch.walks (t : Touch) : Bool := decide (t.op < 16)

/-! ## Banks (R78, R94) -/

/-- The bank of a scratchpad slice that a flat slice address lies in. -/
def sliceBank (a : Nat) : Nat := (a - sliceFlat) % sliceBytes / 64 % 2

/-- The bank of a cluster pool that a flat pool address lies in, and the number that its grants are kept under: the cluster
times 32, plus the bank. -/
def poolBank (a : Nat) : Nat := fld (a - poolFlat) 10 6

def poolBankUnit (a : Nat) : Nat := (a - poolFlat) / 2 ^ 20 * 32 + poolBank a

end Sys2Proof.Machine
end

