-- ==== Sys2Proof/Machine/StreamFormat.lean ====
section
/-! DEFINITION. The codec stream format: table images, prefix codes, blocks, encoding and decoding (R203-R211, R216). -/

namespace Sys2Proof.Machine

/-! ## Table images (R207-R209) -/

/-- The code length of byte value `s` (R207). -/
def codeLen (img : List Byte) (s : Nat) : Nat :=
  let b := (nth 0#8 img (s / 2)).toNat
  if s % 2 = 0 then b % 16 else b / 16

def codeLens (img : List Byte) : List Nat := (List.range 256).map (codeLen img)

/-- A valid table image (R209). -/
def tableOk (img : List Byte) : Bool :=
  let ls := (codeLens img).filter (· != 0)
  img.length == 144 && leAt img 128 2 == 1 && leAt img 130 10 == 0 && leAt img 140 4 == crc32 (img.take 140)
    && decide (2 ≤ ls.length) && (ls.map fun l => 2 ^ (15 - l)).foldl (· + ·) 0 == 32768

/-- The first code of each length, 1 to `n`, as RFC 1951 assigns them (R208); newest length first. -/
def firstCodes (ls : List Nat) : Nat → List Nat
  | 0 => [0]
  | n + 1 =>
    let r := firstCodes ls n
    let prev := if n = 0 then 0 else (ls.filter (· == n)).length
    ((r.headD 0 + prev) * 2) :: r

/-- The canonical codes as (symbol, length, code), coded symbols only (R208). -/
def codeTable (img : List Byte) : List (Nat × Nat × Nat) :=
  let ls := codeLens img
  let firsts := (firstCodes ls 15).reverse
  (ls.zipIdx.foldl (fun (acc : List (Nat × Nat × Nat) × List Nat) p =>
    if p.1 = 0 then acc
    else ((p.2, p.1, nth 0 acc.2 p.1) :: acc.1, modNth acc.2 p.1 (· + 1))) ([], firsts)).1.reverse

/-- The bits of a code, most significant first. -/
def codeBits (len code : Nat) : List Bool := (List.range len).map fun i => code.testBit (len - 1 - i)

/-- Bits packed from bit 0 of each byte upward; the last byte's unused bits are zero (R208). -/
def packBits (bs : List Bool) : List Byte :=
  (List.range (cdiv bs.length 8)).map fun i =>
    BitVec.ofNat 8 (((bs.drop (8 * i)).take 8).zipIdx.foldl (fun a p => a + b2n p.1 * 2 ^ p.2) 0)

def unpackBits (bs : List Byte) : List Bool := bs.flatMap fun b => (List.range 8).map fun i => b.toNat.testBit i

/-- The bytes coded under a table; none when one has no code (R210). -/
def codeBytes (t : List (Nat × Nat × Nat)) (bs : List Byte) : Option (List Byte) :=
  let step (acc : Option (List (List Bool))) (b : Byte) : Option (List (List Bool)) :=
    match acc, t.find? fun e => e.1 == b.toNat with
    | some l, some e => some (codeBits e.2.1 e.2.2 :: l)
    | _, _ => none
  (bs.foldl step (some [])).map fun l => packBits l.reverse.flatten

/-- `n` symbols read from bits: the symbols and the bits left; none when the bits run out. -/
def readSymbols (t : List (Nat × Nat × Nat)) : List Bool → Nat → Nat → Nat → List Byte → Option (List Byte × List Bool)
  | bits, 0, _, _, acc => some (acc.reverse, bits)
  | [], _ + 1, _, _, _ => none
  | b :: bits, n + 1, len, code, acc =>
    let len := len + 1
    let code := code * 2 + b2n b
    match t.find? fun e => e.2.1 == len && e.2.2 == code with
    | some e => readSymbols t bits n 0 0 (BitVec.ofNat 8 e.1 :: acc)
    | none => readSymbols t bits (n + 1) len code acc

/-! ## Blocks (R204-R206, R210) -/

/-- The units of a block, each `w` bytes (R205). -/
def unitsOf (w : Nat) (bs : List Byte) : List (List Byte) := (List.range (cdiv bs.length w)).map fun i => (bs.drop (w * i)).take w

def unitZero (u : List Byte) : Bool := u.all (· == 0#8)

/-- The zero bitmap of R205 and the nonzero units. -/
def zeroForm (w : Nat) (bs : List Byte) : List Byte × List Byte :=
  let us := unitsOf w bs
  (packBits (us.map fun u => !unitZero u), (us.filter fun u => !unitZero u).flatten)

/-- KIND and payload of a block: the smallest formed kind when it meets the threshold, else RAW; and whether RAW was
written because no kind could be formed (R210). Neither coded kind is formed while the block holds a byte without a code, one of
a zero unit included. -/
def chooseBlock (coding w : Nat) (t : List (Nat × Nat × Nat)) (raw : List Byte) : Nat × List Byte × Bool :=
  let (bm, nz) := zeroForm w raw
  let zero := if coding = 0 || coding = 3 then [(1, bm ++ nz)] else []
  let coded := if coding = 1 || coding = 3 then ((codeBytes t raw).map fun p => (2, p)).toList else []
  let all := (codeBytes t raw).isSome
  let zc := if all && (coding = 2 || coding = 3) then ((codeBytes t nz).map fun p => (3, bm ++ p)).toList else []
  let stored (p : Nat × List Byte) : Nat := 8 + roundUp p.2.length 8
  let best := (zero ++ coded ++ zc).foldl (fun (b : Option (Nat × List Byte)) p => match b with
    | none => some p
    | some q => if stored p < stored q then some p else some q) none
  match best with
  | none => (0, raw, true)
  | some p => if 5 * stored p ≤ 4 * raw.length then (p.1, p.2, false) else (0, raw, false)

/-- One block as stored (R204). -/
def blockBytes (gen seq kind : Nat) (raw pay : List Byte) : List Byte :=
  leBytes 8 (seq % 131072 + gen * 2 ^ 17 + kind * 2 ^ 21 + (raw.length - 1) * 2 ^ 23 + pay.length * 2 ^ 35
    + crc16 raw * 2 ^ 48) ++ padTo (roundUp pay.length 8) pay

/-- What a squeezer makes of raw bytes: the stream, blocks written RAW, blocks written otherwise, and RAW blocks for
want of a code (R210, R213). -/
structure Squeezed where
  bytes : List Byte
  rawBlocks : Nat
  codedBlocks : Nat
  absent : Nat
  deriving DecidableEq, Repr

/-- The 16-byte stream header (R203). -/
def streamHeader (coding elem gen raw stored crc : Nat) : List Byte :=
  leBytes 16 (0x5D71 + coding * 2 ^ 24 + elem * 2 ^ 26 + gen * 2 ^ 28 + raw * 2 ^ 32 + stored * 2 ^ 64 + crc * 2 ^ 96)

/-- A stream as a function of the raw bytes, ELEM, CODING, GEN and the table image alone (R211). -/
def squeeze (coding elem gen : Nat) (img raw : List Byte) : Squeezed :=
  let t := if coding = 0 then [] else codeTable img
  let gen := if coding = 0 then 0 else gen
  let crc := if coding = 0 then 0 else leAt img 140 4
  let o := (List.range (cdiv raw.length 4096)).foldl (fun (o : Squeezed) b =>
    let blk := slice raw (4096 * b) 4096
    let (kind, pay, absent) := chooseBlock coding (2 ^ elem) t blk
    ⟨o.bytes ++ blockBytes gen b kind blk pay, o.rawBlocks + b2n (kind == 0), o.codedBlocks + b2n (kind != 0),
      o.absent + b2n absent⟩) ⟨[], 0, 0, 0⟩
  { o with bytes := streamHeader coding elem gen raw.length (16 + o.bytes.length) crc ++ o.bytes }

/-! ## Decoding (R215, R216) -/

/-- Units written back under a zero bitmap; none when a marked unit is zero or the bytes do not fit (R216, 0x06). -/
def fillUnits (w : Nat) : List Bool → Nat → List Byte → Option (List Byte)
  | _, 0, nz => if nz = [] then some [] else none
  | [], _ + 1, _ => none
  | b :: bits, n + 1, nz =>
    if b then
      if nz.length < w || unitZero (nz.take w) then none
      else (fillUnits w bits n (nz.drop w)).map (nz.take w ++ ·)
    else (fillUnits w bits n nz).map (List.replicate w 0#8 ++ ·)

/-- Symbols that must fill the payload but for unused zero bits of its last byte. -/
def decodeExact (t : List (Nat × Nat × Nat)) (pay : List Byte) (n : Nat) : Option (List Byte) :=
  match readSymbols t (unpackBits pay) n 0 0 [] with
  | some (bs, rest) => if rest.length < 8 && rest.all (! ·) then some bs else none
  | none => none

/-- The raw bytes of a block's payload; none is condition 0x06 of R216. -/
def decodePayload (kind w rawLen : Nat) (t : List (Nat × Nat × Nat)) (pay : List Byte) : Option (List Byte) :=
  let n := rawLen / w
  let bm := cdiv n 8
  let bits := unpackBits (pay.take bm)
  let set := ((bits.take n).filter (·)).length
  match kind with
  | 0 => if pay.length = rawLen then some pay else none
  | 1 => if pay.length < bm || (bits.drop n).any (·) then none else fillUnits w bits n (pay.drop bm)
  | 2 => decodeExact t pay rawLen
  | _ =>
    if pay.length < bm || (bits.drop n).any (·) then none
    else (decodeExact t (pay.drop bm) (set * w)).bind (fillUnits w bits n)

/-- The conditions of R216 on a block header, in the order of its table. -/
def blockFault (h b nb rawBytes gen w : Nat) (hasTable : Bool) : Option Nat :=
  let kind := fld h 22 21
  let rl := fld h 34 23 + 1
  let want := if b + 1 < nb then 4096 else rawBytes - 4096 * b
  if (2 ≤ kind && !hasTable) || fld h 20 17 != gen then some 2
  else if 4096 < fld h 47 35 || rl != want || ((kind == 1 || kind == 3) && rl % w != 0) then some 4
  else if fld h 16 0 != b % 131072 then some 5
  else none

/-- The stream header as an expander takes it (R203): RAW_BYTES, GEN, the unit width, and the reason of a fault. -/
structure StreamHead where
  raw : Nat
  gen : Nat
  width : Nat
  fault : Option Nat
  deriving DecidableEq, Repr

/-- The first 16 bytes of a stream whose source has `len`, against the generation and image bound (R216). Condition 0x03 has no
exemption for CODING 0. -/
def streamHead (hd : List Byte) (len : Nat) (bound : Option (Nat × List Byte)) : StreamHead :=
  let h := leNat hd
  let elem := fld h 27 26
  let bad : Option Nat := if len < 16 then some 8
    else if fld h 15 0 != 0x5D71 || elem == 3 || fld h 23 16 != 0 then some 1
    else match bound with
      | none => none
      | some (g, img) =>
        if fld h 25 24 != 0 && fld h 31 28 != g then some 2 else if fld h 127 96 != leAt img 140 4 then some 3 else none
  ⟨fld h 63 32, fld h 31 28, 2 ^ elem, bad⟩

/-- What an expander makes of one block: the stream bytes read so far, and the raw bytes or the reason of a fault. -/
structure BlockRead where
  used : Nat
  raw : List Byte
  fault : Option Nat
  deriving DecidableEq, Repr

/-- Block `b` at offset `at_` of a stream of `len` bytes; `src off n` reads `n` of them from `off` on (R204, R216). -/
def readBlock (src : Nat → Nat → List Byte) (len : Nat) (hd : StreamHead) (t : Option (List (Nat × Nat × Nat)))
    (b at_ : Nat) : BlockRead :=
  if len < at_ + 8 then ⟨len, [], some 8⟩
  else
    let h := leNat (src at_ 8)
    let pl := fld h 47 35
    match blockFault h b (cdiv hd.raw 4096) hd.raw hd.gen hd.width t.isSome with
    | some f => ⟨at_ + 8, [], some f⟩
    | none =>
      let stop := at_ + 8 + roundUp pl 8
      if len < stop then ⟨len, [], some 8⟩
      else
        let pad := src (at_ + 8 + pl) (roundUp pl 8 - pl)
        match decodePayload (fld h 22 21) hd.width (fld h 34 23 + 1) (t.getD []) (src (at_ + 8) pl) with
        | none => ⟨stop, [], some 6⟩
        | some raw =>
          if !unitZero pad then ⟨stop, [], some 6⟩
          else if crc16 raw != fld h 63 48 then ⟨stop, [], some 7⟩
          else ⟨stop, raw, none⟩

/-- What an expander makes of a stream in hand: the raw bytes, and reason and block of a fault. -/
structure Expanded where
  raw : List Byte
  fault : Option (Nat × Nat)
  deriving DecidableEq, Repr

/-- Blocks of a stream in hand from `b` on, until `need` raw bytes are there. -/
def expandBlocks (src : List Byte) (hd : StreamHead) (t : Option (List (Nat × Nat × Nat))) (need : Nat) :
    Nat → Nat → Nat → List Byte → Expanded
  | 0, _, _, acc => ⟨acc, none⟩
  | fuel + 1, b, at_, acc =>
    if need ≤ acc.length || cdiv hd.raw 4096 ≤ b then ⟨acc, none⟩
    else
      let q := readBlock (slice src) src.length hd t b at_
      match q.fault with
      | some f => ⟨acc, some (f, b)⟩
      | none => expandBlocks src hd t need fuel (b + 1) q.used (acc ++ q.raw)

/-- A stream in hand decoded from its start, with the generation and image bound, if any (R376). -/
def expand (src : List Byte) (bound : Option (Nat × List Byte)) (need : Nat) : Expanded :=
  let hd := streamHead (src.take 16) src.length bound
  match hd.fault with
  | some f => ⟨[], some (f, 0)⟩
  | none => expandBlocks src hd (bound.map fun b => codeTable b.2) need (cdiv hd.raw 4096) 0 16 []

end Sys2Proof.Machine
end

