-- ==== Sys2Proof/Machine/Streams.lean ====
section
/-! DEFINITION. MOVE in the modes SQUEEZE and EXPAND on one core (R202, R212-R216). -/

namespace Sys2Proof.Machine

namespace Mv
/-! Fields of R212. -/
def gen (d : Nat) : Nat := fld d 127 124
def coding (d : Nat) : Nat := fld d 123 122
def tableEn (d : Nat) : Bool := bit d 121
end Mv

/-- A rank-1 CODE8 tensor. -/
def streamTensor (t : Nat) : Bool := Ten.rank t == 0 && Ten.fmtD t == .code8

/-- The descriptor checks of MODE 2 and 3; ROUND and SCALAR are ignored (R117, R136, R212, R214). -/
def codecMoveOk (d : Nat) (tensors : List (Nat × Nat)) : Bool :=
  let sq := Cmd.mode d == 2
  let a := smGet 0 tensors (Cmd.ta d)
  let c := smGet 0 tensors (Cmd.tc d)
  let (str, dat) := if sq then (c, a) else (a, c)
  zeroAt d [(511, 160), (120, 102), (79, 64)] && Cmd.tb d == noTensor && Cmd.td d == noTensor && Cmd.ta d != noTensor
    && Cmd.tc d != noTensor && tensorOk a && tensorOk c && streamTensor str && Ten.fmtD dat != .fp4 && !Ten.scaled dat
    && (if sq then !bit d 121 && (Mv.coding d != 0 || Mv.gen d == 0) && inScOk a else Mv.coding d == 0 && outScOk c)

/-- Does the command bind a generation (R213, R215)? -/
def binds (d : Nat) : Bool := if Cmd.mode d = 2 then Mv.coding d != 0 else Mv.tableEn d

/-- ELEM of a format (R213). -/
def elemCode (f : Fmt) : Nat :=
  match f with
  | .fp16 | .bf16 => 1
  | .fp32 | .int32 | .acc96 => 2
  | _ => 0

/-- The flat address of byte `j` of a tensor's elements in increasing linear index. -/
def tensorByteAddr (v : View) (t : Tensor) (j : Nat) : Nat :=
  flat v (Ten.space t.d) ((elemOff t (unlinear t.exts (j / t.fmt.bytes))).1 + j % t.fmt.bytes)

/-- What a core did: its run, its accesses, and, for an EXPAND, reason and block of a stream fault. -/
structure StreamOut where
  run : Run
  touches : List Touch
  fault : Option (Nat × Nat)
  deriving DecidableEq, Repr

/-- SQUEEZE on one core; none where a core check stops it (R213, R214). The whole source is read before the first write: the
first bytes written are the header's, which hold STORED_BYTES (DEDUCED, log 37). -/
def runSqueeze (v : View) (r : Run) (d : Nat) (img : List Byte) : Option StreamOut :=
  let a := openTensor v r (Cmd.ta d)
  let c := openTensor v r (Cmd.tc d)
  let n := volume a.exts * a.fmt.bytes
  if 0xFF000000 < n ∨ c.ext 0 < 16 + 8 * cdiv n 4096 + 8 * cdiv n 8 then none
  else
    let src := (List.range n).map (tensorByteAddr v a)
    let raw := src.map fun x => readByte r.mem v.ue x
    let q := squeeze (Mv.coding d) (elemCode a.fmt) (Mv.gen d) img raw
    let dst := (List.range q.bytes.length).map (tensorByteAddr v c)
    let r := countOver r [(a, a.exts), (c, [q.bytes.length])]
    let r := { r with mem := (dst.zip q.bytes).foldl (fun m (p : Nat × Byte) => memWr m p.1 p.2) r.mem }
    let r := (((r.bump 0x8035 1 q.rawBlocks).bump 0x8035 2 q.codedBlocks).bump 0x8035 3 n).bump 0x8035 4 q.bytes.length
    let touches := boundTouches v a allDims 0 ++ boundTouches v c [0] 2 ++ (src.map fun x => Touch.mk x false 0)
      ++ dst.map fun x => Touch.mk x true 2
    some ⟨r.bump 0x8035 0x0B q.absent, touches, none⟩

/-- An EXPAND in progress: its run and accesses, the stream bytes read, the raw bytes written, and a fault. -/
structure Expanding where
  run : Run
  touches : List Touch
  used : Nat
  out : List Byte
  fault : Option (Nat × Nat)
  deriving DecidableEq, Repr

/-- Blocks from `b` on until `need` raw bytes are written; each is read from the memory as it stands after the writes of those
before it (R139, R215, R227). -/
def expandFrom (v : View) (a c : Tensor) (hd : StreamHead) (t : Option (List (Nat × Nat × Nat))) (need : Nat) :
    Nat → Nat → Expanding → Expanding
  | 0, _, x => x
  | fuel + 1, b, x =>
    if need ≤ x.out.length || cdiv hd.raw 4096 ≤ b then x
    else
      let src (off n : Nat) : List Byte := (List.range n).map fun i => readByte x.run.mem v.ue (tensorByteAddr v a (off + i))
      let q := readBlock src (a.ext 0) hd t b x.used
      let rd := (List.range (q.used - x.used)).map fun i => Touch.mk (tensorByteAddr v a (x.used + i)) false 0
      match q.fault with
      | some f => { x with touches := x.touches ++ rd, used := q.used, fault := some (f, b) }
      | none =>
        let raw := q.raw.take (need - x.out.length)
        let dst := (List.range raw.length).map fun i => tensorByteAddr v c (x.out.length + i)
        expandFrom v a c hd t need fuel (b + 1)
          ⟨{ x.run with mem := (dst.zip raw).foldl (fun m (p : Nat × Byte) => memWr m p.1 p.2) x.run.mem },
            x.touches ++ rd ++ dst.map fun y => Touch.mk y true 2, q.used, x.out ++ raw, none⟩

/-- EXPAND on one core (R215, R216). With no destination bytes it reads the header, which gives RAW_BYTES, and no block. -/
def runExpand (v : View) (r : Run) (d : Nat) (bound : Option (Nat × List Byte)) : StreamOut :=
  let a := openTensor v r (Cmd.ta d)
  let c := openTensor v r (Cmd.tc d)
  let need := volume c.exts * c.fmt.bytes
  let bnd := boundTouches v a [0] 0 ++ boundTouches v c allDims 2
  let n := min 16 (a.ext 0)
  let hd := streamHead ((List.range n).map fun i => readByte r.mem v.ue (tensorByteAddr v a i)) (a.ext 0) bound
  let r := if need = 0 then r.bump 0x8032 0x02 1 else r
  let x0 : Expanding := ⟨r, bnd ++ (List.range n).map fun i => Touch.mk (tensorByteAddr v a i) false 0, n, [],
    hd.fault.map fun f => (f, 0)⟩
  let x := if hd.fault.isSome then x0
    else expandFrom v a c hd (bound.map fun b => codeTable b.2) need (cdiv hd.raw 4096) 0 x0
  let r := (countOver x.run [(a, [x.used]), (c, c.exts)]).bump 0x8035 5 x.out.length
  match x.fault with
  | some f => ⟨r, x.touches, some f⟩
  | none =>
    let r := r.bump 0x8035 0x0A (if hd.raw = need then 0 else 1)
    if c.fmt = .bf16 && need != 0 then
      let els := (List.range (x.out.length / 2)).map fun l =>
        let ix := unlinear c.exts l
        (viewRow c.exts ix, nth 0 ix 0, leAt x.out (2 * l) 2)
      let mx := sidecarMax c.rows c.cols els
      ⟨putSidecar v r c mx.1 mx.2, x.touches ++ sideStore v c (c.rows + c.cols) 2, none⟩
    else ⟨r, x.touches, none⟩

/-- The bytes that a SQUEEZE or EXPAND can touch of its tensors, for what it holds back while it waits (R80, R105, R227): the whole
source and the whole destination. -/
def streamReach (v : View) (r : Run) (d : Nat) : List Touch :=
  let a := openTensor v r (Cmd.ta d)
  let c := openTensor v r (Cmd.tc d)
  let all (t : Tensor) (write : Bool) (op : Nat) : List Touch :=
    (List.range (volume t.exts * t.fmt.bytes)).map fun i => ⟨tensorByteAddr v t i, write, op⟩
  boundTouches v a allDims 0 ++ boundTouches v c allDims 2 ++ all a false 0 ++ all c true 2
    ++ if Cmd.mode d = 3 then sideStore v c (c.rows + c.cols) 2 else []

end Sys2Proof.Machine
end

