-- ==== Sys2Proof/Machine/CoreRun.lean ====
section
/-! DEFINITION. The dispatch of a command and its run on the cores of its set: the checks of R136, each core's run, the
accumulator banks, what its accesses meet in the memory system, and the final completion (R14, R80, R85, R103, R105, R136, R146,
R251, R327). -/

namespace Sys2Proof.Machine

/-! ## The view of one core -/

/-- What a command of context `c` sees on a core of its set (R77, R95, R104, R236). -/
def State.view (s : State) (c core pos : Nat) : View :=
  let x := s.ctx c
  { ctx := c, core := core, slot := Rec.slot x.record, pos := pos, poolBase := x.poolBase, poolSize := x.poolSize,
    partBase := x.partBase, partSize := x.partSize, seed := s.get 0x4320 (c + 1), step := s.get 0x4321 (c + 1),
    tensors := x.tensors, regs := s.cores.regs, ue := s.ueNow }

/-! ## What accesses meet (R237, R249-R254) -/

/-- The accesses of one command on one core so far: the bytes whose writes were refused, the locations and sources logged, and
whether one met an uncorrectable error. -/
structure Met where
  s : State
  refused : List Nat
  seen : List (Nat × Nat)
  bad : Bool
  deriving DecidableEq, Repr

/-- Does a read of `a` find an uncorrectable word? -/
def State.badAt (s : State) (a : Nat) : Bool :=
  if a < hbmBytes then
    match s.cached a with
    | some c => c.bad.contains (a % 64 / 8)
    | none => isUe s.ue a || s.isLost a
  else isUe s.ue a

/-- The uncorrectable locations among the bytes of an access. -/
def State.badUnits (s : State) (bytes : List Nat) : List Nat := firstListings ((bytes.filter s.badAt).map s.errUnit)

/-- Fresh data and check bits at a location: every byte of it is written (R251, R252, R254). -/
def State.refreshUnit (s : State) (u : Nat) : State :=
  match (if u < hbmBytes then s.cached u else none) with
  | some c => s.modLine c.line fun x => { x with bad := x.bad.filter (· != u % 64 / 8) }
  | none => { (if u < hbmBytes then s.unlose u else s) with ue := smSet false s.ue (ueUnit u) false }

/-- One location of an access that is uncorrectable: counted and recorded, logged once for each source (R251). -/
def Met.meet (m : Met) (c source u : Nat) : Met :=
  { m with s := m.s.meetUe u c source (m.seen.contains (u, source)), seen := (u, source) :: m.seen, bad := true }

/-- One access (R251, R252): a read, whose SOURCE is `src`, meets the uncorrectable locations among its bytes; a write refreshes those that it covers and
is not performed in those that it covers in part. A line of HBM then goes through the cache. -/
def Met.access (c src : Nat) (m : Met) (a : LineAccess) : Met :=
  let units := m.s.badUnits a.bytes
  let hbm := decide (a.line < hbmBytes)
  if !a.write then
    let place := !units.contains a.line || (m.s.cached a.line).isSome
    let m := units.foldl (fun m u => m.meet c src u) m
    if hbm then { m with s := m.s.touchLine c a.line false place (decide (a.op < 16)) } else m
  else
    let covered (u : Nat) : Bool := (List.range (m.s.errSize u)).all fun i => a.bytes.contains (u + i)
    let part := units.filter fun u => !covered u
    let lost := a.bytes.filter fun b => part.contains (m.s.errUnit b)
    let done := lost.length < a.bytes.length
    let m := { m with s := (units.filter covered).foldl State.refreshUnit m.s,
                      refused := (m.refused.filter fun b => !a.bytes.contains b) ++ lost }
    let m := part.foldl (fun m u => m.meet c 1 u) m
    let m := if (firstListings a.bytes).length = 64 && hbm then { m with s := m.s.unlose a.line } else m
    if hbm && (done || (m.s.cached a.line).isSome) then { m with s := m.s.touchLine c a.line done done (decide (a.op < 16)) } else m

/-- What accesses of one command meet, its writes already in memory (R237, R251, R252, R254): the bytes whose writes are not
performed hold again what `before` held. `seen` lists the locations and sources that the command has logged; the answer has
those of these accesses too. `src` is the SOURCE of the reads. -/
def State.metFrom (s : State) (c : Nat) (touches : List Touch) (before : List Host.Cell) (seen : List (Nat × Nat))
    (src : Nat := 0) : (State × List Status) × List (Nat × Nat) :=
  let m := (accessesOf touches).foldl (Met.access c src) ⟨s, [], seen, false⟩
  let s1 := { m.s with mem := m.refused.foldl (fun x a => memWr x a (memRd before a)) m.s.mem }
  let lost := (s.ctx c).lostPending && touches.any fun t => decide (t.addr < hbmBytes)
  let s1 := if lost then s1.modCtx c fun x => { x with lostPending := false } else s1
  ((s1, if m.bad || lost then [.memUncorrectable] else []), m.seen)

/-- What the accesses of one command on one core meet. -/
def State.met (s : State) (c : Nat) (touches : List Touch) (before : List Host.Cell) : State × List Status :=
  (s.metFrom c touches before []).1

/-! ## Contested grants (R91, R92, R226, R244) -/

/-- How many requesters a resource serves. -/
def arbMod : Arb → Nat
  | .pool => 80
  | .tracker | .squeezer | .expander | .dict => 64
  | .media => 128
  | _ => 8

def arbCode : Arb → Nat
  | .matrix => 0 | .bank => 1 | .vector => 2 | .scalar => 3 | .pool => 4 | .tracker => 5 | .squeezer => 6 | .expander => 7
  | .media => 8 | .dict => 9

/-- The counter of a resource's contested grants; scalar issue and the engines have none. -/
def arbCounter : Arb → Option (Nat × Nat)
  | .matrix | .bank => some (0x8031, 2)
  | .vector => some (0x8031, 3)
  | .pool => some (0x8031, 6)
  | .tracker => some (0x8036, 0x10)
  | _ => none

/-- The key of a resource's pointer. -/
def ptrKey (res : Arb) (unit : Nat) : Nat := arbCode res * 2 ^ 20 + unit

/-- One grant (R91): contested only by two requesters or more; the pointer then moves past the winner. -/
def State.grant (s : State) (c : Contest) : State :=
  if c.reqs.length < 2 then s
  else
    let key := ptrKey c.res c.unit
    let w := arbWinner (smGet 0 s.cores.ptrs key) c.reqs
    let s := { s with cores := { s.cores with ptrs := smSet 0 s.cores.ptrs key ((w + 1) % arbMod c.res) } }
    match arbCounter c.res with
    | some k => s.bump k.1 k.2 1
    | none => s

/-- Can a command of context `c` on `cores`, with these accesses, take part in a contest? It is one of the requesters, by slot,
core of the cluster or context, and its accesses reach the resource (R92). -/
def State.contestOk (s : State) (c : Nat) (cores : List Nat) (opcode : Nat) (touches : List Touch) (x : Contest) : Bool :=
  let r := (s.ctx c).record
  let asks (n : Nat) : Bool := x.reqs.contains (n, Rec.cls r)
  match x.res with
  | .matrix | .bank => (opcode == 1 || opcode == 2) && cores.contains x.unit && asks (Rec.slot r)
  | .vector => decide (3 ≤ opcode) && decide (opcode ≤ 6) && cores.contains x.unit && asks (Rec.slot r)
  | .scalar => cores.contains x.unit && asks (Rec.slot r)
  | .pool => touches.any (fun t => decide (poolFlat ≤ t.addr) && decide (t.addr < sliceFlat) && poolBankUnit t.addr == x.unit)
      && cores.any fun k => clusterOf k == x.unit / 32 && asks (k % 80)
  | .tracker => touches.any (fun t => decide (t.addr < hbmBytes) && stackOf t.addr == x.unit) && asks c
  | .squeezer | .expander => opcode == 6 && x.unit == 0 && asks c
  | .media | .dict => false

/-! ## Accumulator banks (R85) -/

/-- Does a command that a core does not finish hold a bank of it? -/
def State.bankHeld (s : State) (core bank : Nat) : Bool :=
  s.sched.flights.any fun f => f.holds.any fun h => h.core == core && h.bank == some bank

/-- The bank that a slot of class `cls` claims and the cycles it waits, when bank 0 and bank 1 come free after `w0` and `w1`
cycles (none: not at all). A class 0 or 1 slot takes bank 1 when it is free or comes free no later than bank 0. -/
def bankClaim (cls : Nat) (w0 w1 : Option Nat) : Option (Nat × Nat) :=
  if cls ≤ 1 then
    match w0, w1 with
    | some a, some b => if b ≤ a then some (1, b) else some (0, a)
    | none, some b => some (1, b)
    | some a, none => some (0, a)
    | none, none => none
  else w0.map fun a => (0, a)

/-- The cycles until the two banks of a core come free of other slots, when tile `i` of the command asks for one. -/
def State.bankFree (s : State) (e : Env) (core i : Nat) : Option Nat × Option Nat :=
  let h := e.bankHolds.find? fun h => h.core == core && h.tile == i
  (if s.bankHeld core 0 then none else some ((h.map (·.bank0)).getD 0),
   if s.bankHeld core 1 then none else some ((h.map (·.bank1)).getD 0))

/-- A bank with every entry at zero, then with the entries of a tile (R85). -/
def fillBank (accs : List (Nat × Nat)) (core bank : Nat) (entries : List (Nat × Nat)) : List (Nat × Nat) :=
  let k := core * 2 + bank
  entries.foldl (fun l e => smSet 0 l (k * 1024 + e.1) e.2) (smDrop (fun x => x / 1024 == k) accs)

/-- The tiles of a matrix command claim a bank one after the other (R85, R121): a tile waits until the round-out of the one before
ends, since a slot holds one bank at most, and then for a bank that another slot holds. Answers the accumulator file and the
cycles waited. The wait for the round-out in a BF16 CONV is open (log 38). -/
def State.claimBanks (s : State) (e : Env) (core cls : Nat) (tiles : List TileOut) : List (Nat × Nat) × Nat :=
  let o := tiles.zipIdx.foldl (fun (o : (List (Nat × Nat) × Nat) × Nat) p =>
    let own := if p.2 = 0 then 0 else if p.1.prepass = 0 then o.2 else Config.convBankWait o.2 p.1.prepass % (o.2 + 1)
    let (w0, w1) := s.bankFree e core p.2
    let (bank, wait) := (bankClaim cls (w0.map (· - own)) (w1.map (· - own))).getD (0, 0)
    ((fillBank o.1.1 core bank p.1.accs, o.1.2 + own + wait), p.1.blocks + 4)) ((s.cores.accs, 0), 0)
  o.1

/-! ## One core -/

/-- What a command did on one core. -/
structure CoreOut where
  run : Run
  regs : List (Nat × Nat)
  masks : Option (Nat × Nat)
  tiles : List TileOut
  fills : Bool
  deriving DecidableEq, Repr

/-- The effect of a core command on one core, by opcode; none is a core check that stopped it. -/
def coreBody (v : View) (r : Run) (d : Nat) : Option CoreOut :=
  let plain (r : Run) : CoreOut := ⟨r, [], none, [], false⟩
  match Cmd.opcode d with
  | 1 | 2 => (runMatrix v r d).map fun o => ⟨o.run, [], o.masks, o.tiles, o.fills⟩
  | 3 => (runGrouped v r d).map plain
  | 4 => (runPool v r d).map plain
  | 5 => (runVector v r d).map plain
  | 6 => some (plain (if Cmd.mode d = 0 then runCopy v r d else runFill v r d))
  | 8 => some ⟨r, [(Cmd.ldst d, loadregWord v r d)], none, [], false⟩
  | _ => some (plain r)

/-- The registers, the masks, the program counter and the last slot of a core after a command (R77, R83). -/
def Cores.after (k : Cores) (v : View) (o : CoreOut) : Cores :=
  let sk := slotKey v.core v.slot
  { k with
    regs := o.regs.foldl (fun l p => smSet 0 l (sk * 32 + p.1) p.2) k.regs
    pcs := smSet 0 k.pcs sk (smGet 0 k.pcs sk + 1)
    masks := match o.masks with
      | some m => smSet 0 k.masks sk (m.1 + m.2 * 2 ^ 32)
      | none => k.masks
    lastSlot := if !o.fills then k.lastSlot else smSet 0 k.lastSlot v.core (v.slot + 1) }

/-- The bytes that a command accesses on one core; for SQUEEZE and EXPAND, those that it can. -/
def State.reach (s : State) (c d core pos : Nat) : List Touch :=
  let v := s.view c core pos
  if Cmd.opcode d = 6 ∧ 2 ≤ Cmd.mode d then streamReach v ⟨s.mem, s.ctr⟩ d else coreTouches v ⟨s.mem, s.ctr⟩ d

/-- One core of a command's set: its run, its banks and counters, and what its accesses meet. Answers the state and the statuses
the core adds. -/
def State.runOnCore (s : State) (e : Env) (c d core pos : Nat) : State × List Status :=
  let v := s.view c core pos
  let r : Run := ⟨s.mem, s.ctr⟩
  match coreBody v r d with
  | none => (s.bump 0x8032 0x03 1, [.descriptorInvalid])
  | some o =>
    let touches := coreTouches v r d
    let fill := o.fills && smGet 0 s.cores.lastSlot core != 0 && smGet 0 s.cores.lastSlot core != v.slot + 1
    let (accs, wait) := s.claimBanks e core (Rec.cls (s.ctx c).record) o.tiles
    let s1 : State := { s with mem := o.run.mem, ctr := o.run.ctr, cores := { s.cores.after v o with accs := accs } }
    ((s1.bump 0x8031 0x0A (b2n fill)).bump 0x8031 0x04 wait).met c touches s.mem

/-- The streams that a command declares (R242): for each tensor it reads in HBM, one for each stack that its walk falls in, with
the lines of the walk in order. -/
def State.declareWalks (s : State) (c owner : Nat) (touches : List Touch) : State :=
  let reads := touches.filter fun t => !t.write && t.walks && decide (t.addr < hbmBytes)
  (firstListings (reads.map fun t => t.op * 8 + stackOf t.addr)).foldl (fun s k =>
    let mine := reads.filter fun t => t.op == k / 8 && stackOf t.addr == k % 8
    let walk := (mine.foldl (fun (l : List Nat) t => if l.head? == some (lineBase t.addr) then l else lineBase t.addr :: l) []).reverse
    s.takeTracker ⟨k % 8, c, false, 0, 0, 0, s.memsys.clock, owner, walk, 0⟩) s

/-- The declared streams of a command end when it completes (R242). -/
def State.undeclare (s : State) (owner : Nat) : State :=
  s.setTrackers (s.memsys.trackers.filter fun t => t.learned || t.owner != owner)

/-- A command on every core of `cores`, given with their positions in the set: every core begins it, and declares its walks; then
the cores run one after the other in set order. What two cores do to bytes of the pool or of HBM that both access is open (R140):
set order is the model's choice (DESIGN CHOICE, log 40). -/
def State.runCores (s : State) (e : Env) (owner c d : Nat) (cores : List (Nat × Nat)) : State × List Status :=
  let s := cores.foldl (fun s p => s.declareWalks c owner (s.reach c d p.1 p.2)) s
  let s := s.prefetchDue c e.prefetched
  cores.foldl (fun (x : State × List Status) p =>
    let (s, f) := x.1.runOnCore e c d p.1 p.2
    (s, x.2 ++ f)) (s, [])

/-- What a core that does not finish a command holds (R77, R85): the bank its first tile claimed, which ACC_CLEAR set to zero, and
the walks of its tensors, at a place that nothing fixes (log 5). -/
def State.hang (s : State) (e : Env) (c d core pos : Nat) : State × CoreHold :=
  let v := s.view c core pos
  let r : Run := ⟨s.mem, s.ctr⟩
  let tensors := ([Cmd.ta d, Cmd.tb d, Cmd.tc d, Cmd.td d].filter (· != noTensor)).map fun n => (n, openTensor v r n)
  let (s, walks) := tensors.foldl (fun (x : State × List JigWalk) t =>
    let (s, n) := x.1.fresh 40
    (s, x.2 ++ [⟨t.1, t.2.exts, n⟩])) (s, [])
  let tiles := if Cmd.opcode d = 1 ∨ Cmd.opcode d = 2 then ((runMatrix v r d).map (·.tiles)).getD [] else []
  let (w0, w1) := s.bankFree e core 0
  match (if tiles = [] then none else bankClaim (Rec.cls (s.ctx c).record) w0 w1) with
  | none => (s, ⟨core, none, walks⟩)
  | some (b, wait) =>
    ({ (s.bump 0x8031 0x04 wait) with cores := { s.cores with accs := fillBank s.cores.accs core b [] } }, ⟨core, some b, walks⟩)

/-! ## Lists and completions -/

def State.findList (s : State) (id : Nat) : Option CList := s.sched.lists.find? fun l => l.id == id

def State.modList (s : State) (id : Nat) (f : CList → CList) : State :=
  { s with sched := { s.sched with lists := mapIf (fun l => l.id == id) f s.sched.lists } }

namespace ListHdr
/-! Fields of a list header (R314). -/
def listTag (h : Nat) : Nat := fld h 31 0
def model (h : Nat) : Nat := fld h 47 40
def count (h : Nat) : Nat := fld h 63 48
def onDemand (h : Nat) : Bool := bit h 64
def mergeM (h : Nat) : Nat := fld h 71 66
def mergeKey (h : Nat) : Nat := fld h 87 72
def rowIn (h : Nat) : Nat := fld h 99 88
def rowOut (h : Nat) : Nat := fld h 111 100
def rowBytes (h : Nat) : Nat := fld h 127 112
end ListHdr

/-- The completion address of one member for one entry. -/
def CList.addr (l : CList) (m : Member) (i : Nat) : Addr :=
  { stream := m.stream, listTag := m.tag, tag := fld (nth 0 m.hdrs i) 31 16, entry := i, model := l.model,
    merged := l.phase == .dispatching && decide (1 ≤ ListHdr.mergeM l.hdr) }

def CList.addrs (l : CList) (i : Nat) : List Addr := l.members.map fun m => l.addr m i

/-- The cores that a list's core commands name, set by set in the order of its entries (log 21). -/
def CList.cores (l : CList) (x : Ctx) : List Nat :=
  (firstListings ((l.entries.filter fun e => fld e.1 1 0 == 0 && Cmd.opcode e.2.toNat != 9).map fun e =>
    Cmd.coreset e.2.toNat)).flatMap fun k =>
    (coreSet (smGet 0 x.coresets k)).filter (holdsSlot (Rec.footprint x.record))

/-- The first of them; ROW_OUT in SLICE or POOL means that core's (log 21). -/
def CList.firstCore (l : CList) (x : Ctx) : Nat := ((l.cores x).head?).getD 0

/-- The cores whose ROW_IN takes the members' rows: in SLICE every core of the list, in POOL one of each cluster, in HBM
any (log 21). -/
def CList.rowCores (l : CList) (x : Ctx) (slice pool : Bool) : List Nat :=
  if slice then l.cores x
  else if pool then
    (((l.cores x).foldl (fun (a : List Nat × List Nat) k =>
      if a.1.contains (clusterOf k) then a else (clusterOf k :: a.1, a.2 ++ [k])) ([], []))).2
  else [l.firstCore x]

/-- Bytes of `n` packed elements of a format; FP4 takes half a byte (R51). -/
def Fmt.rowBytes (f : Fmt) (n : Nat) : Nat := cdiv (n * f.bits) 8

/-- Row `i` of the matrix view of a tensor of context `c`, EXT0 elements, as bytes (R51, R326, R327). -/
def State.rowBytes (s : State) (c core t i : Nat) : List Byte :=
  let v := s.view c core 0
  let r : Run := ⟨s.mem, s.ctr⟩
  let x := openTensor v r t
  let n := Ten.ext x.d 0
  if x.fmt = .fp4 then
    (List.range (x.fmt.rowBytes n)).flatMap fun j => leBytes 1
      (getRC v r x i (2 * j) % 16 + if 2 * j + 1 < n then getRC v r x i (2 * j + 1) % 16 * 16 else 0)
  else (List.range n).flatMap fun j => leBytes x.fmt.bytes (getRC v r x i j)

/-- A row of ROW_OUT read for its member, with what the reads meet (R237, R251, R327). The command has ended: the reads add no
status to it (log 59). -/
def State.readRow (s : State) (c core t i : Nat) : State × List Byte :=
  let v := s.view c core 0
  let x := openTensor v ⟨s.mem, s.ctr⟩ t
  let touches := boundTouches v x x.inner 0 ++ (List.range (Ten.ext x.d 0)).flatMap fun j => rcTouches v x i j false 0
  ((s.met c touches s.mem).1, s.rowBytes c core t i)

/-- The final completion of a command to every address (R14, R327): a member's row goes with its last entry's. -/
def State.complete (s : State) (addrs : List Addr) (c : Nat) (st : Status) (detail : Nat) (list : Nat) (hdr : Nat) (desc : Desc) :
    State :=
  let l := s.findList list
  addrs.zipIdx.foldl (fun s p =>
    let (s, row) := match l with
      | some l => if p.1.merged && st.valid && p.1.entry + 1 == l.entries.length then
          s.readRow c (l.firstCore (s.ctx c)) (ListHdr.rowOut l.hdr) p.2 else (s, [])
      | none => (s, [])
    s.finalComp p.1 st c detail row hdr desc) s

/-- Lists that are wholly dispatched, with no command in flight and none awaiting replay, are forgotten. -/
def State.sweepLists (s : State) : State :=
  let live (l : CList) : Bool := l.phase != .dispatched || s.sched.flights.any (fun f => f.list == l.id)
    || s.sched.interrupted.any (fun f => f.list == l.id) || s.sched.suspects.any fun f => f.list == l.id
  { s with sched := { s.sched with lists := s.sched.lists.filter live } }

/-- Is the command in flight? One that a reset interrupted has had its final completion (R467). -/
def State.running (s : State) (id : Nat) : Bool := s.sched.flights.any fun f => f.id == id

/-- References of commands that have had their final completion are dropped; a RETIRING slot without one is wiped and FREE
(R221). -/
def State.codecRelease (s : State) : State :=
  let refs := s.codec.refs.filter fun r => s.running r.1
  let free (p : TableSlot × Nat) : TableSlot :=
    if p.1.phase == .retiring && !refs.any (fun r => r.2 == p.2) then {} else p.1
  { s with codec := { s.codec with
      refs := refs, slots := s.codec.slots.zipIdx.map free, faulted := s.codec.faulted.filter s.running,
      waiting := s.codec.waiting.filter s.running, waitSq := s.codec.waitSq.filter (fun q => s.running q.flight),
      waitEx := s.codec.waitEx.filter fun q => s.running q.flight } }

def State.flight (s : State) (id : Nat) : Option Flight := s.sched.flights.find? fun f => f.id == id

def State.modFlight (s : State) (id : Nat) (f : Flight → Flight) : State :=
  { s with sched := { s.sched with flights := mapIf (fun x => x.id == id) f s.sched.flights } }

/-- A command in flight reaches its final completion with the first of its statuses (R16). -/
def State.finish (s : State) (f : Flight) (st : List Status) : State :=
  let s := { s with sched := { s.sched with flights := s.sched.flights.filter fun x => x.id != f.id } }
  let s := if f.kind = .normal then s.complete f.addrs f.ctx (firstStatus (f.found ++ st)) 0 f.list f.hdr f.desc
    else { s with sched := { s.sched with replayFound := s.sched.replayFound ++ [firstStatus (f.found ++ st)] } }
  (s.undeclare f.id).sweepLists.codecRelease

def State.addFlight (s : State) (f : Flight) : State :=
  { s with sched := { s.sched with flights := s.sched.flights ++ [f], nextId := s.sched.nextId + 1 } }

/-! ## Dispatch (R105, R136, R146, R315, R319) -/

/-- A descriptor with the field `hi:lo` forced to `x`. -/
def force (d : Desc) (hi lo x : Nat) : Desc := BitVec.ofNat 512 (setFld d.toNat hi lo x)

/-- The entry header's reserved bits (R315, R316). -/
def hdrOk (h : Nat) (engine : Nat) : Bool := fld h 15 4 == 0 && fld h 2 2 == 0 && fld h 1 0 == engine

/-- A command as dispatched: its addresses, its list (0 when it was dispatched directly), its header and descriptor. -/
structure Sent1 where
  addrs : List Addr
  list : Nat
  hdr : Nat
  desc : Desc
  deriving DecidableEq, Repr

/-- May the context's commands be dispatched now: S2, READY, not held, no package reset under way (R305, R421, R467,
R469, R482)? -/
def State.mayDispatch (s : State) (c : Nat) : Bool :=
  s.inS2 && decide (c < 64) && (s.ctx c).phase == .ready && !s.held c && !s.pkg.resets.any fun r => r.domType == 6

/-- The number of an engine in an entry header (R315). -/
def Engine.code : Engine → Nat
  | .cores => 0 | .fabric => 0 | .planer => 1 | .codec => 2 | .intake => 3

/-- Does an entry spell a command: is the field that names it, and each field that names its operation, no reserved value (R117,
R130, R132, R134, R165, R170, R218, R279, R369)? -/
def entryKnown (hdr d : Nat) : Bool :=
  match fld hdr 1 0 with
  | 0 =>
    match Cmd.opcode d with
    | 4 => Cmd.poolOp d != 3
    | 5 => vopOk (Cmd.vop d)
    | 6 => decide (Cmd.mode d ≤ 3)
    | 9 => decide (1 ≤ fld d 99 96) && decide (fld d 99 96 ≤ 3)
    | n => decide (1 ≤ n) && decide (n ≤ 8)
  | 1 => fld d 5 4 == 0 || (fld d 5 4 == 1 && decide (fld d 7 6 ≤ 1))
  | 2 => fld d 1 0 == 1 || fld d 1 0 == 2
  | _ => decide (1 ≤ fld d 3 0) && decide (fld d 3 0 ≤ 4)

/-- An entry that spells no command, next in a dispatching list whose context may dispatch, completes with DESCRIPTOR_INVALID
(R14, R136); one for the cores or the fabric engine counts as refused at dispatch. -/
def State.refuseUnknown (s : State) (l : CList) : State :=
  match l.entries[l.next]?, s.sched.ctxs.findIdx? fun x => x.model == l.model && x.phase == .ready with
  | some e, some c =>
    if l.phase != .dispatching || entryKnown e.1 e.2.toNat || !s.mayDispatch c then s
    else
      let s := s.modList l.id fun l =>
        { l with next := l.next + 1, phase := if l.next + 1 = l.entries.length then .dispatched else .dispatching }
      let s := s.complete (l.addrs l.next) c .descriptorInvalid 0 l.id e.1 e.2
      (s.bump 0x8032 0x06 (b2n (fld e.1 1 0 == 0))).sweepLists
  | _, _ => s

/-- Such entries at the front of every list, at most one list's length of them. -/
def State.refuseAllUnknown (s : State) : State :=
  let n := listMax 0 (s.sched.lists.map fun l => l.entries.length)
  (List.range n).foldl (fun s _ => s.sched.lists.foldl (fun s l => s.refuseUnknown l) s) s

/-- Does `desc` stand next in a dispatching list of the context? Then the entry is taken from it (R105, R319). -/
def State.take (s : State) (d : Dispatch) (desc : Desc) : State × Sent1 :=
  let s := s.refuseAllUnknown
  match s.sched.lists.find? fun l => l.phase == .dispatching && l.model == (s.ctx d.ctx).model
      && (l.entries[l.next]?) == some (d.hdr, desc) with
  | some l =>
    let last := decide (l.next + 1 = l.entries.length)
    let s := s.modList l.id fun l => { l with next := l.next + 1, phase := if last then .dispatched else .dispatching }
    let ts := ((smGet [] s.sched.dispTimes l.model) ++ [(s.time - l.admittedAt) * 40])
    let times := smSet [] s.sched.dispTimes l.model (ts.drop (ts.length - 16))
    let s := if last then { s with sched := { s.sched with dispTimes := times } } else s
    (s, ⟨l.addrs l.next, l.id, d.hdr, desc⟩)
  | none =>
    (s, ⟨[{ stream := d.stream, listTag := d.listTag, tag := fld d.hdr 31 16, entry := d.entry,
            model := (s.ctx d.ctx).model, merged := false }], 0, d.hdr, desc⟩)

/-! ## Commands of the engines outside the cores -/

/-- The flat address of a partition offset of context `c` (R109, R236). -/
def State.partAddr (s : State) (c off : Nat) : Nat :=
  let x := s.ctx c
  x.partBase + off % x.partSize

/-- `n` bytes of a context's partition, as an engine's command reads them, and their accesses. -/
def State.partRead (s : State) (c off n : Nat) : List Byte :=
  (List.range n).map fun i => readByte s.mem s.ueNow (s.partAddr c (off + i))

def State.partTouch (s : State) (c off n : Nat) (write : Bool) (op : Nat) : List Touch :=
  (List.range n).map fun i => ⟨s.partAddr c (off + i), write, op⟩

/-- Bytes stored in a context's partition from `off` on. -/
def State.partWrite (s : State) (c off : Nat) (bs : List Byte) : State :=
  { s with mem := bs.zipIdx.foldl (fun m p => memWr m (s.partAddr c (off + p.2)) p.1) s.mem }

/-- Does a reset domain (type and index as in RESET_REQUEST, R486) hold a core? -/
def inDomain (t i core : Nat) : Bool :=
  if t = 1 then groupOf core == i else if t = 3 then dieOfCore core == i else t == 6

/-- A core whose domain is being reset, or on whose domain another context's replay runs (R461, R468): work for it waits. -/
def State.coreWaits (s : State) (c core : Nat) : Bool :=
  (s.pkg.resets.any fun r => inDomain r.domType r.domIndex core)
    || s.sched.flights.any fun f => f.kind == .replay && f.ctx != c
        && s.sched.suspects.any fun x => x.ctx == f.ctx && inDomain x.domType x.domIndex core

/-- A core on a LOST die, or one in which the context holds no slot (R136, R475). -/
def State.coreBad (s : State) (c core : Nat) : Bool :=
  !holdsSlot (Rec.footprint (s.ctx c).record) core || s.dieState (dieOfCore core) == 5

/-- The dispatch checks that concern the core set (R136). -/
def State.setOk (s : State) (c : Nat) (cores : List Nat) : Bool := cores != [] && cores.all fun k => !s.coreBad c k

/-- The cores that a descriptor names. -/
def State.coresOf (s : State) (c : Nat) (d : Desc) : List Nat :=
  coreSet (smGet 0 (s.ctx c).coresets (Cmd.coreset d.toNat))

/-- Is the map bit of a layer set (R145)? -/
def State.frozen (s : State) (c layer : Nat) : Bool := bit (s.get 0x4020 (c + 1)) layer

/-- Does a command that is dispatched to the cores wait for a clock (R430)? -/
def State.clockWait (s : State) (cores : List Nat) : Bool := cores.any fun k => s.groupClock (groupOf k) != 2

/-- The costs an environment brings (R93, R228, R247, R250, R258, R430), of which only a throttled stack delays accesses and only a
stopped clock a core, the contested grants in which the command can take part (`ok`), and the new uncorrectable units and words of
cached lines (R249). -/
def State.applyEnv (s : State) (e : Env) (cores : List Nat) (matrix : Bool) (ok : Contest → Bool) : State :=
  let s := { s with ue := e.newUe.foldl (fun u a => smSet false u (ueUnit a) true) s.ue }
  let s := e.newCacheUe.foldl (fun s a => s.modLine (lineBase a) fun x =>
    { x with bad := if x.bad.contains (a % 64 / 8) then x.bad else x.bad ++ [a % 64 / 8] }) s
  let s := (e.contests.filter ok).foldl State.grant s
  let s := ((s.bump 0x8036 0x01 e.ceHbm).bump 0x8036 0x03 e.ceSram).bump 0x8031 0x05 e.portRetries
  let s := ((s.bump 0x8036 0x0A e.bankConflicts).bump 0x8036 0x0B e.turnarounds).bump 0x8036 0x0D
    (if (List.range 8).any fun h => s.get 0x5004 (h + 1) != 0 then e.throttleNs else 0)
  let s := s.bump 0x803C 0x06 (if s.clockWait cores then e.wakeNs else 0)
  if e.stallCycles = 0 then s
  else if matrix then (s.bump 0x8035 0x06 e.stallCycles).bump 0x8035 0x07 1
  else s.bump 0x8035 0x0E e.stallCycles

/-- A command that fails a dispatch check: DESCRIPTOR_INVALID, counted once (R136). -/
def State.refuse (s : State) (c : Nat) (x : Sent1) : State :=
  ((s.complete x.addrs c .descriptorInvalid 0 x.list x.hdr x.desc).bump 0x8032 0x06 1).sweepLists

/-- A command of the Planer, the codec or the intake that fails its checks: DESCRIPTOR_INVALID. -/
def State.refuseEngine (s : State) (c : Nat) (x : Sent1) : State :=
  (s.complete x.addrs c .descriptorInvalid 0 x.list x.hdr x.desc).sweepLists

/-- Can a command of an engine take part in a contest: for a tracker by its context (R244), for an intake engine by the stream that
its BATCH claims from (R284), for a dictionary slot by the context of its DICT_LOAD (R278)? -/
def State.engineAsks (s : State) (c : Nat) (e : Engine) (n : Nat) (x : Contest) : Bool :=
  let asks (r : Nat) : Bool := x.reqs.contains (r, Rec.cls (s.ctx c).record)
  match x.res with
  | .tracker => asks c
  | .media => e == .intake && fld n 3 0 == 1 && asks (fld n 10 4)
  | .dict => e == .intake && fld n 3 0 == 2 && x.unit == fld n 5 4 && asks c
  | _ => false

/-- A command dispatched to an engine: checked, then in flight, then run. A reserved bit of its header is a dispatch check of R136
(R316). -/
def State.engineCommand (s : State) (d : Dispatch) (desc : Desc) (e : Engine) (ok : State → Bool)
    (run : State → Flight → State) : State :=
  if !s.mayDispatch d.ctx then s
  else
    let (s, x) := s.take d desc
    if !hdrOk d.hdr (fld d.hdr 1 0) then s.refuse d.ctx x
    else if !hdrOk d.hdr e.code || !ok s then s.refuseEngine d.ctx x
    else
      let s := s.applyEnv d.env [] false (s.engineAsks d.ctx e desc.toNat)
      let f : Flight := Flight.mk s.sched.nextId e .normal d.ctx x.addrs x.hdr x.desc x.list [] [] false s.time []
      run (s.addFlight f) f

/-! ## Core commands -/

/-- Does an operation that a slot has not finished hold back a later one of the slot? They share a 64-byte line of the slice
(R80, R227), or the later accesses the pool or HBM and the earlier writes there (R105). -/
def holdsBack (old new : List Touch) : Bool :=
  let lines := (old.filter fun t => decide (sliceFlat ≤ t.addr)).map fun t => t.addr / 64
  let out (t : Touch) : Bool := decide (t.addr < sliceFlat)
  new.any (fun t => decide (sliceFlat ≤ t.addr) && lines.contains (t.addr / 64))
    || (new.any out && old.any fun t => t.write && out t)

/-- Does core `core`'s slot of context `c` have to wait before it begins a command (R77, R80, R96, R105, R370): it waits at a
BARRIER, a collective of the context that the command could see is not complete, an unfinished operation holds the command back,
or commands that do not finish hold every bank that a tile may claim? -/
def State.slotWaits (s : State) (c d core pos : Nat) : Bool :=
  (smGet [] s.cores.barriers c).any (fun a => a.core == core)
    || (s.sched.flights.any (fun f => f.engine == .fabric && f.ctx == c) && (s.reach c d core pos).any fun t => decide (t.addr < sliceFlat))
    || (s.sched.flights.any fun f => f.engine == .cores && f.ctx == c && f.cores.contains core && Cmd.opcode f.desc.toNat != 7
        && holdsBack (s.reach c f.desc.toNat core (((s.coresOf c f.desc).findIdx? (· == core)).getD 0)) (s.reach c d core pos))
    || ((Cmd.opcode d == 1 || Cmd.opcode d == 2) && (s.bankHeld core 0 || s.bankHeld core 1)
        && (bankClaim (Rec.cls (s.ctx c).record) (s.bankFree {} core 0).1 (s.bankFree {} core 0).2).isNone)

/-- The dispatch of a command to the cores of a set (R103, R105, R136, R146): refused by a dispatch check, skipped because its
layer is frozen, which is settled here and held for a replay (R147), left to wait, or run. -/
def State.dispatchCores (s : State) (d : Dispatch) (desc : Desc) (ok : State → Bool)
    (run : State → Sent1 → List Nat → State) : State :=
  let c := d.ctx
  let cores := s.coresOf c desc
  if !s.mayDispatch c then s
  else
    let (s1, x) := s.take d desc
    if !hdrOk d.hdr 0 || !ok s1 || !s1.setOk c cores then s1.refuse c x
    else if bit d.hdr 3 && s1.frozen c (Cmd.layer desc.toNat) then
      let s1 := s1.modList x.list fun l => { l with skipped := l.skipped ++ [l.next - 1] }
      ((s1.complete x.addrs c .done 0 x.list x.hdr x.desc).bump 0x8033 0x01 1).sweepLists
    else if cores.any (s.coreWaits c) || cores.zipIdx.any fun p => s.slotWaits c desc.toNat p.1 p.2 then s
    else run (s1.wake cores) x cores

/-- The whole of a core command other than BARRIER (R103): the run on each core of the set, the final completion. Cores that hang
leave it in flight (R462), and hold what they have taken. -/
def State.coreCommand (s : State) (d : Dispatch) (desc : Desc) : State :=
  s.dispatchCores d desc (fun s => descOk desc.toNat (s.ctx d.ctx).tensors) fun s x cores =>
    let c := d.ctx
    let n := desc.toNat
    let id := s.sched.nextId
    let matrix := Cmd.opcode n == 1 || Cmd.opcode n == 2
    let all := cores.zipIdx
    let s := s.applyEnv d.env cores matrix (s.contestOk c cores (Cmd.opcode n) (all.flatMap fun p => s.reach c n p.1 p.2))
    let (s, st) := s.runCores d.env id c n (all.filter fun p => !d.env.hang.contains p.1 && !d.env.illegal.contains p.1)
    let ill := cores.any fun k => d.env.illegal.contains k && !d.env.hang.contains k
    let st := st ++ (if ill then [Status.illegalInstruction] else [])
      ++ (if matrix && d.env.stallCycles != 0 then [Status.expanderStall] else [])
    let hung := all.filter fun p => d.env.hang.contains p.1
    let (s, holds) := hung.foldl (fun (y : State × List CoreHold) p =>
      let (s, h) := (y.1.declareWalks c id (y.1.reach c n p.1 p.2)).hang d.env c n p.1 p.2
      (s, y.2 ++ [h])) (s, [])
    let f : Flight := Flight.mk id .cores .normal c x.addrs x.hdr x.desc x.list (hung.map (·.1)) st false s.time holds
    if f.cores = [] then (s.addFlight f).finish f [] else s.addFlight f

end Sys2Proof.Machine
end

