-- ==== Sys2Proof/Machine/Barrier.lean ====
section
/-! DEFINITION. MOVE in the modes COPY and FILL, LOADREG, and BARRIER with its reductions (R96-R100, R134, R135). -/

namespace Sys2Proof.Machine

/-- COPY (R134): opcode 6, MODE 0. -/
def execCopy (d : Dispatch) (s : State) : Host.Outcome State Fault Refusal :=
  .next (s.coreCommand d (force (force d.desc 7 0 6) 99 96 0))

/-- FILL (R134): opcode 6, MODE 1. -/
def execFill (d : Dispatch) (s : State) : Host.Outcome State Fault Refusal :=
  .next (s.coreCommand d (force (force d.desc 7 0 6) 99 96 1))

/-- LOADREG (R135): opcode 8. -/
def execLoadreg (d : Dispatch) (s : State) : Host.Outcome State Fault Refusal :=
  .next (s.coreCommand d (force d.desc 7 0 8))

/-! ## Reductions (R98, R99) -/

def s64 (x : Nat) : Int := toSigned 64 x

/-- The result of a reduction over all operands, and the overflow flag of an integer sum. -/
def reduce (redop : Nat) (ops : List Nat) : Nat × Nat :=
  let ints := ops.map s64
  let f := ops.map fun x => f32 (x % 2 ^ 32)
  match redop with
  | 1 =>
    let t := ints.foldl (· + ·) 0
    (ofSigned 64 t, if t < -(2 ^ 63 : Int) ∨ (2 ^ 63 : Int) ≤ t then 1 else 0)
  | 2 => (ofSigned 64 (ints.tail.foldl min (ints.headD 0)), 0)
  | 3 => (ofSigned 64 (ints.tail.foldl max (ints.headD 0)), 0)
  | 4 => (ops.foldl (· &&& ·) (2 ^ 64 - 1), 0)
  | 5 => (ops.foldl (· ||| ·) 0, 0)
  | 6 => ((outVal .fp32 .rne (f.tail.foldl valMin (f.headD .nan))).bits, 0)
  | 7 => ((outVal .fp32 .rne (f.tail.foldl valMax (f.headD .nan))).bits, 0)
  | 8 => ((finish .fp32 .rne (anchoredSum (f.map condOf))).bits, 0)
  | _ => (0, 0)

/-! ## Barrier channels (R96) -/

/-- The cores in which the context holds a slot: the participants of its channel. -/
def participants (footprint : Nat) : List Nat :=
  (List.range 40).flatMap fun g => if bit footprint g then
    (List.range 2000).map fun i => g / 10 * 20000 + g % 10 * 2000 + i else []

def State.arrivals (s : State) (c : Nat) : List Arrival := smGet [] s.cores.barriers c

def State.setArrivals (s : State) (c : Nat) (l : List Arrival) : State :=
  { s with cores := { s.cores with barriers := smSet [] s.cores.barriers c l } }

/-- The first arrival of each core: those that one release takes. -/
def firstArrivals (l : List Arrival) : List Arrival :=
  l.foldl (fun acc a => if acc.any (fun b => b.core == a.core) then acc else acc ++ [a]) []

/-- The participants in `gone` leave their BARRIER with a status; a command whose cores have all left completes. -/
def State.releaseAll (s : State) (gone : List Arrival) (st : List Status) : State :=
  (firstListings (gone.map (·.flight))).foldl (fun s id =>
    let mine := (gone.filter fun a => a.flight == id).map (·.core)
    let s := s.modFlight id fun f => { f with cores := f.cores.filter (fun k => !mine.contains k), found := f.found ++ st }
    match s.flight id with
    | some f => if f.cores = [] then s.finish f [] else s
    | none => s) s

/-- The release of a channel (R96, R98): every participant has arrived. An FP32 result stands in bits 31:0 of DST_REG, with zeros
above it (DESIGN CHOICE, log 87: R98 gives the operand its bits and the register none). -/
def State.tryRelease (s : State) (c : Nat) : State :=
  let all := s.arrivals c
  let first := firstArrivals all
  let parts := participants (Rec.footprint (s.ctx c).record)
  if first = [] || !(parts.all fun k => first.any fun a => a.core == k) then s
  else
    let rest := first.foldl List.erase all
    let s := s.setArrivals c rest
    let red := (first.head?.map (·.redop)).getD 0
    if first.any fun a => a.redop != red then
      (s.bump 0x8031 0x08 1).releaseAll first [.descriptorInvalid]
    else
      let (v, ov) := reduce red (first.map (·.operand))
      let slot := Rec.slot (s.ctx c).record
      let put (l : List (Nat × Nat)) (a : Arrival) : List (Nat × Nat) :=
        if red = 0 then l
        else
          let l := smSet 0 l (slotKey a.core slot * 32 + a.dst) v
          if red = 1 then smSet 0 l (slotKey a.core slot * 32 + a.dst + 1) ov else l
      let s := { s with cores := { s.cores with regs := first.foldl put s.cores.regs } }
      ((s.bump 0x8031 0x07 1).bump 0x8031 0x09 (if red = 0 then 0 else 1)).releaseAll first []

/-- A channel completed with the barrier-fault flag (R100, R463): every arrival so far is released with `st`. -/
def State.faultBarrier (s : State) (c : Nat) (st : Status) : State :=
  let l := s.arrivals c
  if l = [] then s else ((s.setArrivals c []).bump 0x8031 0x08 1).releaseAll l [st]

/-- The arrivals of the cores `come` at the channel of context `c`, for the command in flight `f` (R96, R135). -/
def State.arrive (s : State) (f : Flight) (come : List (Nat × Nat)) : State :=
  let n := f.desc.toNat
  let slot := Rec.slot (s.ctx f.ctx).record
  let arr := come.map fun p => Arrival.mk p.1 f.id (Cmd.redop n) (scalarReg (s.view f.ctx p.1 p.2) (Cmd.srcReg n)) (Cmd.bdst n)
  let pcs := come.foldl (fun l p => smSet 0 l (slotKey p.1 slot) (smGet 0 l (slotKey p.1 slot) + 1)) s.cores.pcs
  let s := { s with cores := { s.cores with pcs := pcs } }
  s.setArrivals f.ctx (s.arrivals f.ctx ++ arr)

/-- BARRIER (R96, R135): every core of the set arrives; the command completes once the channel releases them all. -/
def State.barrier (s : State) (d : Dispatch) (desc : Desc) : State :=
  s.dispatchCores d desc (fun s => descOk desc.toNat (s.ctx d.ctx).tensors) fun s x cores =>
    let c := d.ctx
    let s := s.applyEnv d.env cores false (s.contestOk c cores 7 [])
    let ill := cores.filter fun k => d.env.illegal.contains k
    let wait := cores.filter fun k => !ill.contains k
    let st := if ill = [] then [] else [Status.illegalInstruction]
    let f := Flight.mk s.sched.nextId .cores .normal c x.addrs x.hdr x.desc x.list wait st false s.time []
    let s := (s.addFlight f).arrive f ((cores.zipIdx).filter fun p => !ill.contains p.1 && !d.env.hang.contains p.1)
    if wait = [] then s.finish f [] else s.tryRelease c

/-- BARRIER (R96): opcode 7. -/
def execBarrier (d : Dispatch) (s : State) : Host.Outcome State Fault Refusal :=
  .next (s.barrier d (force d.desc 7 0 7))

end Sys2Proof.Machine
end

