-- ==== Sys2Proof/Machine/Fabric.lean ====
section
/-! DEFINITION. The Dovetail ports: training, flits and retry, credits, messages, roles (R356-R368). -/

namespace Sys2Proof.Machine

/-! ## Port objects (R358, R366, R390) -/

def State.dv (s : State) (p : Nat) : DvPort := nth {} s.fab.ports p

def State.modDv (s : State) (p : Nat) (f : DvPort → DvPort) : State :=
  { s with fab := { s.fab with ports := modNth s.fab.ports p f } }

/-- PORT_STATE bits 31:24: 0 OFF, 1 TRAINING, 2 UP, 3 UP_HALF, 4 DOWN, 5 STOPPING, 6 PENDING_START. -/
def State.portState (s : State) (p : Nat) : Nat := fld (s.get 0x3100 (p + 1)) 31 24

def State.setPortState (s : State) (p v : Nat) : State := s.set 0x3100 (p + 1) (setFld (s.get 0x3100 (p + 1)) 31 24 v)

def State.portRole (s : State) (p : Nat) : Nat := s.get 0x3101 (p + 1)

/-- In service: UP or UP_HALF. -/
def State.portUp (s : State) (p : Nat) : Bool := s.portState p == 2 || s.portState p == 3

/-- The ports of a role that are in service, lowest first. -/
def State.rolePorts (s : State) (role : Nat) : List Nat :=
  (List.range 6).filter fun p => s.portRole p == role && s.portUp p

def State.roleCtl (s : State) (role : Nat) : RoleCtl := smGet {} s.fab.roles role

def State.setRoleCtl (s : State) (role : Nat) (x : RoleCtl) : State :=
  { s with fab := { s.fab with roles := smSet {} s.fab.roles role x } }

/-! ## Flits (R359-R361) -/

/-- The 256 bytes of a flit. MSG_SEQ stands in CONTROL FIRST and ONLY flits only. -/
def flitBytes (seq ack : Nat) (nak : Bool) (credits creditVc : Nat) (f : Flit) : List Byte :=
  let ms := if f.vc = 0 ∧ (f.type = 1 ∨ f.type = 4) then f.msgSeq % 2 ^ 16 else 0
  let h := seq % 4096 * 2 ^ 52 + ack % 4096 * 2 ^ 40 + 2 ^ 39 + b2n nak * 2 ^ 38 + f.vc * 2 ^ 37 + f.type * 2 ^ 34
    + f.payload.length * 2 ^ 26 + credits * 2 ^ 18 + creditVc * 2 ^ 17 + ms
  let bs := beBytes 8 h ++ padTo 240 f.payload
  bs ++ beBytes 8 (crc64 bs)

def idleFlit : Flit := { vc := 0, type := 0, msgSeq := 0, payload := [] }

/-- One flit put on the fibre with the acknowledgement due and up to 255 credits owed on one VC. -/
def State.emit (s : State) (p seq : Nat) (nak : Bool) (f : Flit) : State :=
  let x := s.dv p
  let ctl := x.owedCtl != 0
  let n := min 255 (if ctl then x.owedCtl else x.owedBulk)
  let paid (x : DvPort) : DvPort := if ctl then { x with owedCtl := x.owedCtl - n } else { x with owedBulk := x.owedBulk - n }
  let s := s.modDv p fun x => { paid x with sinceAck := 0 }
  s.send (.dv p) (flitBytes seq x.rxSeq nak n (b2n (!ctl)) f)

/-- An IDLE flit, which takes no sequence number. -/
def State.emitIdle (s : State) (p : Nat) (nak : Bool) : State := s.emit p 0 nak idleFlit

/-- The flit a port sends next: CONTROL first, but BULK at least once in every 16 (R361); none without credits or while
the replay buffer of 2,048 is full (R360). -/
def DvPort.pick (x : DvPort) : Option (Flit × DvPort) :=
  if 2048 ≤ x.unacked.length then none
  else
    let ctl : Option (Flit × DvPort) := match x.waitCtl with
      | f :: r => if x.credCtl = 0 then none
          else some (f, { x with waitCtl := r, credCtl := x.credCtl - 1, bulkRun := if x.waitBulk = [] then 0 else x.bulkRun + 1 })
      | [] => none
    let bulk : Option (Flit × DvPort) := match x.waitBulk with
      | f :: r => if x.credBulk = 0 then none else some (f, { x with waitBulk := r, credBulk := x.credBulk - 1, bulkRun := 0 })
      | [] => none
    if 15 ≤ x.bulkRun && bulk.isSome then bulk else if ctl.isSome then ctl else bulk

/-- Up to `n` flits sent. -/
def State.pump (s : State) (p : Nat) : Nat → State
  | 0 => s
  | n + 1 =>
    match (s.dv p).pick with
    | none => s
    | some (f, x) =>
      let s := s.modDv p fun _ => { x with txSeq := (x.txSeq + 1) % 4096, unacked := x.unacked ++ [(x.txSeq, f)] }
      (s.emit p x.txSeq false f).pump p n

def State.pumpAll (s : State) (p : Nat) : State := s.pump p ((s.dv p).waitCtl.length + (s.dv p).waitBulk.length)

/-- Every unacknowledged flit sent again (R360): counted once; the sixteenth replay in a row takes the port to DOWN
and starts a training, which the caller does. -/
def State.replay (s : State) (p : Nat) : State :=
  let x := s.dv p
  let s := (s.modDv p fun x => { x with replays := x.replays + 1 }).bump 0x803A 2 1
  x.unacked.foldl (fun s u => s.emit p u.1 false u.2) s

/-! ## Messages (R363-R365) -/

/-- A fabric message: its header fields and its body (R363). -/
structure Msg where
  type : Nat
  flags : Nat := 0
  index : Nat := 0
  id : Nat := 0
  offset : Nat := 0
  body : List Byte := []
  deriving DecidableEq, Repr

def Msg.bytes (m : Msg) : List Byte :=
  beBytes 16 (m.type * 2 ^ 120 + m.flags * 2 ^ 112 + m.index * 2 ^ 96 + m.id * 2 ^ 64 + m.offset * 2 ^ 32 + m.body.length) ++ m.body

/-- The VC of a message type (R363): 0 CONTROL, 1 BULK. -/
def msgVc (type : Nat) : Nat :=
  if type = 0x14 ∨ type = 0x21 ∨ type = 0x22 ∨ type = 0x23 ∨ type = 0x31 then 1 else 0

def msgTypeOk (t : Nat) : Bool :=
  (decide (1 ≤ t) && decide (t ≤ 7)) || (decide (0x10 ≤ t) && decide (t ≤ 0x15)) || (decide (0x20 ≤ t) && decide (t ≤ 0x24))
    || (decide (0x30 ≤ t) && decide (t ≤ 0x32))

/-- A message cut into runs of at most 240 bytes. -/
def chunks240 : Nat → List Byte → List (List Byte)
  | 0, _ => []
  | n + 1, bs => if bs.length ≤ 240 then [bs] else bs.take 240 :: chunks240 n (bs.drop 240)

/-- The flits of a message (R359): ONLY, or FIRST, MIDDLE and LAST. -/
def messageFlits (role vc seq : Nat) (bs : List Byte) : List Flit :=
  let cs := chunks240 (bs.length / 240 + 1) bs
  let last := cs.length - 1
  cs.zipIdx.map fun p =>
    let ty := if last = 0 then 4 else if p.2 = 0 then 1 else if p.2 = last then 3 else 2
    { vc := vc, type := ty, msgSeq := seq, payload := p.1, role := role }

/-- A CONTROL message put on a port. -/
def State.putControl (s : State) (p role seq : Nat) (bs : List Byte) : State :=
  (s.modDv p fun x => { x with waitCtl := x.waitCtl ++ messageFlits role 0 seq bs }).pumpAll p

/-- A BULK message put on a port. -/
def State.putBulk (s : State) (p role : Nat) (bs : List Byte) : State :=
  (s.modDv p fun x => { x with waitBulk := x.waitBulk ++ messageFlits role 1 0 bs, bulkHeld := x.bulkHeld ++ [(role, bs)] }).pumpAll p

/-- CONTROL messages sent again on a port, before every newer message, but behind the rest of one already begun (R365). -/
def State.putAgain (s : State) (p role : Nat) (ms : List (Nat × List Byte)) : State :=
  let more (f : Flit) : Bool := f.type == 2 || f.type == 3
  let flits := ms.flatMap fun m => messageFlits role 0 m.1 m.2
  ((s.modDv p fun x => { x with waitCtl := x.waitCtl.takeWhile more ++ flits ++ x.waitCtl.dropWhile more }).pumpAll p).bump
    0x803A 0x0E ms.length

/-- The port of a role with the least BULK waiting, lowest first (R364: any port in service will do). -/
def State.bulkPort (s : State) (role : Nat) : Option Nat :=
  (s.rolePorts role).foldl (fun b p => match b with
    | none => some p
    | some q => if (s.dv p).waitBulk.length < (s.dv q).waitBulk.length then some p else some q) none

/-- A message sent to the neighbour of a role; without a port in service it is discarded (R365). Answers its MSG_SEQ. -/
def State.sendMsg (s : State) (role : Nat) (m : Msg) : State × Option Nat :=
  if msgVc m.type = 0 then
    match s.rolePorts role with
    | [] => (s, none)
    | p :: _ =>
      let x := s.roleCtl role
      let s := s.setRoleCtl role { x with outSeq := (x.outSeq + 1) % 65536, held := x.held ++ [(x.outSeq, m.bytes)] }
      (s.putControl p role x.outSeq m.bytes, some x.outSeq)
  else
    match s.bulkPort role with
    | none => (s, none)
    | some p => (s.putBulk p role m.bytes, none)

def State.post (s : State) (role : Nat) (m : Msg) : State := (s.sendMsg role m).1

/-! ## Service begins and ends (R357, R358, R365) -/

/-- A port as training leaves it: sequence numbers restarted, 64 CONTROL and 1,024 BULK credits granted (R361). -/
def freshPort : DvPort := { credCtl := 64, credBulk := 1024 }

/-- Does a port stop with traffic still in its replay buffer (R358)? -/
def State.draining (s : State) (p : Nat) : Bool := (s.portState p == 5 || s.portState p == 6) && (s.dv p).role != 0

/-- The role whose traffic a port carries: PORT_ROLE, or what it was when its stop began. -/
def State.dvRole (s : State) (p : Nat) : Nat := if s.draining p then (s.dv p).role else s.portRole p

/-- Do flits pass on a port: is it in service, or does it stop with traffic still to acknowledge? -/
def State.portLive (s : State) (p : Nat) : Bool := s.portUp p || s.draining p

/-- The traffic of one role that stood on a port which has left service (R365): it moves to the other ports of the role in service,
CONTROL messages whole and in order, or is discarded with everything the role holds. -/
def State.moveRole (s : State) (x : DvPort) (role : Nat) : State :=
  match s.rolePorts role with
  | [] => s.setRoleCtl role { (s.roleCtl role) with held := [], ahead := [] }
  | q :: _ =>
    let here (h : Nat × List Byte) : Bool :=
      (x.unacked.map (·.2) ++ x.waitCtl).any fun f => f.vc == 0 && f.role == role && f.msgSeq == h.1
    let s := s.putAgain q role ((s.roleCtl role).held.filter here)
    (x.bulkHeld.filter fun b => b.1 == role).foldl (fun s b => match s.bulkPort role with
      | some r => s.putBulk r role b.2
      | none => s) s

/-- A port leaves service (R365) for state `next`: the traffic of every role that stands on it moves. -/
def State.portLeaves (s : State) (p next : Nat) : State :=
  let live := s.portLive p
  let role := s.dvRole p
  let x := s.dv p
  let s := (s.setPortState p next).modDv p fun _ => {}
  if !live then s
  else
    let others := [1, 2, 3, 4, 5, 6, 7, 8, 9].filter fun r => r != role
      && ((x.unacked.any fun u => u.2.role == r) || (x.waitCtl ++ x.waitBulk).any fun f => f.role == r)
    (role :: others).foldl (fun s r => s.moveRole x r) s

/-- A stop begins on a port (R358): one in service keeps its flits until they are acknowledged or 10 µs have passed. -/
def State.stopPort (s : State) (p : Nat) : State :=
  if s.portUp p then
    let role := s.portRole p
    (s.setPortState p 5).modDv p fun x => { x with role := role }
  else s.setPortState p 5

/-- Is a port's engine fenced or LOST? Its port behaves as DOWN (R477). -/
def State.engineOut (s : State) (p : Nat) : Bool := s.get 0x1011 (8 + p) == 4 || s.get 0x1011 (8 + p) == 5

/-- A training begins on a port (R358), but for one whose engine is out. -/
def State.trainPort (s : State) (p : Nat) : State := s.portLeaves p (if s.engineOut p then 4 else 1)

/-- PORT_TRAINING_DONE (R357, R365, R368): the width by the failed lanes; the role's numbers restart when no other port of it
is in service. -/
def State.portTrained (s : State) (p failed ns : Nat) : State :=
  if s.portState p ≠ 1 then s
  else
    -- an engine whose laser input is low fails on every lane (R517)
    let failed := if bit (s.get 0x2203 (p + 1)) 0 then 255 else failed
    let n := ((List.range 8).filter fun i => bit failed i).length
    let st := if n = 0 then 2 else if n ≤ 4 then 3 else 4
    let role := s.portRole p
    let s := if s.rolePorts role = [] then s.setRoleCtl role {} else s
    let s := s.set 0x3100 (p + 1) (ns % 2 ^ 16 + failed % 256 * 2 ^ 16 + st * 2 ^ 24)
    s.modDv p fun _ => if st = 4 then {} else freshPort

def execPortTrainingDone (p failed ns : Nat) (s : State) : Host.Outcome State Fault Refusal :=
  .next (if p < 6 then s.portTrained p failed ns else s)

/-- PORT_RETRY (R358): a retraining of a DOWN port, every 1 s. -/
def execPortRetry (p : Nat) (s : State) : Host.Outcome State Fault Refusal :=
  .next (if p < 6 && s.inS2 && s.portState p == 4 then s.trainPort p else s)

/-- PORT_STOP_COMPLETE (R358): the flits are acknowledged or 10 µs have passed; what is not acknowledged moves to the other ports of
the role, and the buffers are wiped. -/
def execPortStopComplete (p : Nat) (s : State) : Host.Outcome State Fault Refusal :=
  .next (if 6 ≤ p then s
    else match s.portState p with
    | 5 => (s.portLeaves p 0).set 0x3100 (p + 1) 0
    | 6 => (s.portLeaves p 1).set 0x3100 (p + 1) (2 ^ 24)
    | _ => s)

/-- No collective runs or waits (R358, R367, R434). -/
def State.noCollective (s : State) : Bool := !s.sched.flights.any fun f => f.engine == .fabric

/-- The effect of a PORT_ROLE write that R358 accepts: OFF trains, a role of 0 stops, a role written in service
changes the role without retraining: what the port has begun to send goes on. DESIGN CHOICE (log 63): R358 does not list a role of 0
written in TRAINING or PENDING_START; it stops the port. -/
def State.writeRole (s : State) (p role : Nat) : State :=
  let st := s.portState p
  if role = 0 then
    let s := if s.portUp p || st = 1 || st = 4 || st = 6 then s.stopPort p else s
    s.set 0x3101 (p + 1) 0
  else
    let s := s.set 0x3101 (p + 1) role
    match st with
    | 0 => s.setPortState p (if s.engineOut p then 4 else 1)
    | 5 => (s.setPortState p 6).bump 0x803C 8 1
    | _ => s

/-- Is a PORT_ROLE write refused (R358): a role changed in service while a collective is queued or running? -/
def State.roleRefused (s : State) (p role : Nat) : Bool := role != 0 && s.portUp p && !s.noCollective

/-! ## DV_FLIT (R359-R363) -/

/-- A message as it is received: reserved values and fields are refused (R363). -/
def msgOk (vc : Nat) (bs : List Byte) : Bool :=
  let h := beNat (bs.take 16)
  let ty := fld h 127 120
  let coll := decide (0x20 ≤ ty) && decide (ty ≤ 0x24)
  decide (16 ≤ bs.length) && msgTypeOk ty && msgVc ty == vc && fld h 31 0 == bs.length - 16 && decide (bs.length ≤ 66576)
    && fld h 119 113 == 0 && (!bit h 112 || (coll && vc == 1)) && (coll || fld h 111 96 == 0)
    && (coll || ty == 1 || ty == 2 || ty == 5 || ty == 6 || fld h 95 64 == 0)

/-- Credits of BULK flits whose bytes the receiver is done with, each of 240 bytes but the last (R361). -/
def State.bulkDone (s : State) (p : Nat) (bs : List Byte) : State :=
  s.modDv p fun x => { x with owedBulk := x.owedBulk + cdiv bs.length 240 }

/-- A message delivered to the commands that take it, or discarded and counted. -/
def State.deliver (s : State) (p vc : Nat) (bs : List Byte) : State :=
  if msgOk vc bs then { s with fab := { s.fab with inbox := s.fab.inbox ++ [(p, s.dvRole p, bs)] } }
  else
    let s := s.bump 0x803A 3 1
    if vc = 1 then s.bulkDone p bs else s

/-- Messages that waited for the one just delivered. -/
def State.deliverAhead (s : State) (p role : Nat) : Nat → State
  | 0 => s
  | n + 1 =>
    let x := s.roleCtl role
    match x.ahead.find? fun a => a.1 == x.inSeq with
    | none => s
    | some a =>
      let s := s.setRoleCtl role { x with inSeq := (x.inSeq + 1) % 65536, ahead := x.ahead.filter fun b => b.1 != a.1 }
      (s.deliver p 0 a.2).deliverAhead p role n

/-- A whole CONTROL message: delivered in MSG_SEQ order, once (R365). -/
def State.controlIn (s : State) (p seq : Nat) (bs : List Byte) : State :=
  let role := s.dvRole p
  let x := s.roleCtl role
  if seq = x.inSeq then
    ((s.setRoleCtl role { x with inSeq := (x.inSeq + 1) % 65536 }).deliver p 0 bs).deliverAhead p role x.ahead.length
  else if (seq + 65536 - x.inSeq) % 65536 < 32768 then s.setRoleCtl role { x with ahead := x.ahead ++ [(seq, bs)] }
  else s.bump 0x803A 0x0F 1

/-- The payload of an accepted flit joins the message of its VC (R359). -/
def State.assemble (s : State) (p vc ty seq : Nat) (pay : List Byte) : State :=
  let x := s.dv p
  if vc = 0 then
    match ty, x.asmCtl with
    | 4, _ => (s.modDv p fun x => { x with asmCtl := none }).controlIn p seq pay
    | 1, _ => s.modDv p fun x => { x with asmCtl := some (seq, pay) }
    | 2, some a => s.modDv p fun x => { x with asmCtl := some (a.1, a.2 ++ pay) }
    | 3, some a => (s.modDv p fun x => { x with asmCtl := none }).controlIn p a.1 (a.2 ++ pay)
    | _, _ => s.bump 0x803A 3 1
  else
    let s := if ty = 1 ∨ ty = 4 then s.bulkDone p (x.asmBulk.getD []) else s
    match ty, x.asmBulk with
    | 4, _ => (s.modDv p fun x => { x with asmBulk := none }).deliver p 1 pay
    | 1, _ => s.modDv p fun x => { x with asmBulk := some pay }
    | 2, some a => s.modDv p fun x => { x with asmBulk := some (a ++ pay) }
    | 3, some a => (s.modDv p fun x => { x with asmBulk := none }).deliver p 1 (a ++ pay)
    | _, _ => (s.bump 0x803A 3 1).bulkDone p pay

/-- Flits that an ACK frees: those before it in the sequence (R360). -/
def ackedBy (ack : Nat) (u : List (Nat × Flit)) : List (Nat × Flit) :=
  u.filter fun f => !decide ((ack + 4096 - f.1 - 1) % 4096 < 2048)

/-- An acknowledgement from the peer: flits are freed, and messages wholly acknowledged are forgotten (R360, R365). -/
def State.peerAck (s : State) (p ack : Nat) : State :=
  let old := (s.dv p).unacked
  let new := ackedBy ack old
  let ends (l : List Flit) : Nat := (l.filter fun f => f.vc == 1 && (f.type == 3 || f.type == 4)).length
  let s := s.modDv p fun x =>
    let out := ends (new.map (·.2) ++ x.waitBulk)
    { x with unacked := new, replays := if new.length < old.length then 0 else x.replays,
             bulkHeld := x.bulkHeld.drop (x.bulkHeld.length - out) }
  let out := (List.range 6).flatMap fun q => ((s.dv q).unacked.map (·.2)) ++ (s.dv q).waitCtl
  (s.fab.roles.map (·.1)).foldl (fun s r =>
    let x := s.roleCtl r
    s.setRoleCtl r { x with held := x.held.filter fun h => out.any fun f => f.vc == 0 && f.role == r && f.msgSeq == h.1 }) s

/-- The replay limit (R360): 16 consecutive replays of one SEQ take the port to DOWN and start a training. -/
def State.replayLimit (s : State) (p : Nat) : State := if s.portUp p && decide (16 ≤ (s.dv p).replays) then s.trainPort p else s

/-- A bad flit (R360): discarded and counted; one NAK until the replay. -/
def State.badFlit (s : State) (p : Nat) : State :=
  let s := s.bump 0x803A 1 1
  if (s.dv p).nakSent then s else (s.modDv p fun x => { x with nakSent := true }).emitIdle p true

/-- Has a flit that is no IDLE a reserved or impossible field (R359)? -/
def flitBad (h : Nat) : Bool :=
  let ty := fld h 36 34
  let len := fld h 33 26
  decide (5 ≤ ty) || len == 0 || decide (240 < len) || bit h 16
    || (!(fld h 37 37 == 0 && (ty == 1 || ty == 4)) && fld h 15 0 != 0)

/-- What a good flit's acknowledgement, NAK and credits do. -/
def State.flitLink (s : State) (p h : Nat) : State :=
  let s := if bit h 39 then s.peerAck p (fld h 51 40) else s
  let n := fld h 25 18
  let s := s.modDv p fun x => if bit h 17 then { x with credBulk := x.credBulk + n } else { x with credCtl := x.credCtl + n }
  if bit h 38 then (s.replay p).replayLimit p else s

/-- DV_FLIT (R360). -/
def State.dvFlit (s : State) (p : Nat) (bs : List Byte) : State :=
  if !s.inS2 || !s.portLive p || 6 ≤ p then s
  else if bs.length ≠ 256 ∨ crc64 (bs.take 248) ≠ beNat (bs.drop 248) then s.badFlit p
  else
    let h := beNat (bs.take 8)
    let ty := fld h 36 34
    if ty = 0 then (s.flitLink p h).pumpAll p
    else if fld h 63 52 ≠ (s.dv p).rxSeq then s.badFlit p
    else
      let vc := fld h 37 37
      let due := if vc = 0 then 1 else 0
      let took (x : DvPort) : DvPort := { x with rxSeq := (x.rxSeq + 1) % 4096, nakSent := false }
      let s := s.modDv p fun x => { took x with sinceAck := x.sinceAck + 1, owedCtl := x.owedCtl + due }
      let s := s.flitLink p h
      let len := fld h 33 26
      let s := if flitBad h then (let s := s.bump 0x803A 3 1; if vc = 0 then s else s.bulkDone p [0#8])
        else s.assemble p vc ty (fld h 15 0) (slice bs 8 len)
      let s := s.pumpAll p
      if 64 ≤ (s.dv p).sinceAck then s.emitIdle p false else s

/-- DV_ACK_TIMER (R360): 200 ns with flits the peer has not had acknowledged. -/
def execDvAckTimer (p : Nat) (s : State) : Host.Outcome State Fault Refusal :=
  .next (if p < 6 && s.inS2 && s.portLive p && (s.dv p).sinceAck != 0 then s.emitIdle p false else s)

/-- DV_REPLAY_TIMER (R360): 3 µs without an acknowledgement. -/
def execDvReplayTimer (p : Nat) (s : State) : Host.Outcome State Fault Refusal :=
  .next (if p < 6 && s.inS2 && s.portLive p && (s.dv p).unacked != [] then (s.replay p).replayLimit p else s)

/-- DV_REPLAY_RATE_EXCEEDED (R357): re-equalised first, retrained when the rate is exceeded again. -/
def execDvReplayRateExceeded (p : Nat) (s : State) : Host.Outcome State Fault Refusal :=
  .next (if !(p < 6 && s.inS2 && s.portUp p) then s
    else if (s.dv p).eqDone then s.trainPort p
    else s.modDv p fun x => { x with eqDone := true })

/-- Does a message stand among those delivered from the neighbour of a role? -/
def State.hasMsg (s : State) (role : Nat) (m : Msg) : Bool := s.fab.inbox.any fun e => e.2 == (role, m.bytes)

/-- A message taken by its command: it leaves the inbox, and its BULK flits return their credits. -/
def State.takeMsg (s : State) (role : Nat) (m : Msg) : State :=
  match s.fab.inbox.find? fun e => e.2 == (role, m.bytes) with
  | none => s
  | some e =>
    let n := if msgVc m.type = 1 then cdiv e.2.2.length 240 else 0
    ({ s with fab := { s.fab with inbox := s.fab.inbox.erase e } }).modDv e.1 fun x => { x with owedBulk := x.owedBulk + n }

/-- The effect of a message, once for each that was delivered (R362). -/
def State.onMsg (s : State) (role : Nat) (m : Msg) (run : State → State) : State :=
  if s.hasMsg role m then run (s.takeMsg role m) else s

/-! ## The pair's side of the fabric -/

/-- PAIR_STATE bits 7:0: 0 OFF, 1 FORMING, 2 PAIRED, 3 SOLO, 4 REFILL_SEND, 5 REFILL_RECV, 6 STOPPING, 7 PENDING_START. -/
def State.pairState (s : State) : Nat := fld (s.get 0x3111 1) 7 0

def State.setPair (s : State) (st reason : Nat) : State := s.set 0x3111 1 (st + reason * 256)

def State.paired (s : State) : Bool := s.pairState == 2

def State.modPair (s : State) (f : Pair → Pair) : State := { s with fab := { s.fab with pair := f s.fab.pair } }

/-- A message to the partner on the PAIR ports. -/
def State.toPartner (s : State) (m : Msg) : State := s.post 1 m

/-! ## Batch claims of a pair (R385, R387) -/

/-- A difference in mirrored control state (R385): counted and logged with the object it concerns. -/
def State.mirrorMismatch (s : State) (index sub : Nat) : State :=
  (s.bump 0x803A 9 1).logAdd { kind := 0x51, detail := leBytes 2 index ++ leBytes 1 sub }

/-- A claim (stream, first sample, N) or the CRC of a batch's mask of one side meets the other side's next one. -/
def State.meetClaim (s : State) (mine : Bool) (e : List Nat) : State :=
  let p := s.fab.pair
  let like (x : List Nat) : Bool := x.length == e.length && nth 0 x 0 == nth 0 e 0
  match (if mine then p.partnerClaims else p.localClaims).find? like with
  | none => s.modPair fun p =>
      if mine then { p with localClaims := p.localClaims ++ [e] } else { p with partnerClaims := p.partnerClaims ++ [e] }
  | some x =>
    let s := s.modPair fun p =>
      if mine then { p with partnerClaims := p.partnerClaims.erase x } else { p with localClaims := p.localClaims.erase x }
    if x = e then s else s.mirrorMismatch 0x4113 (nth 0 e 0 + 1)

/-- The body of BATCH_CLAIM: stream, first sample, N, and the CRC-32 of the mask once the batch is complete. -/
def claimBody (e : List Nat) : List Byte :=
  beBytes 2 (nth 0 e 0) ++ beBytes 4 (nth 0 e 1) ++ beBytes 2 (nth 0 e 2) ++ (if e.length = 4 then beBytes 4 (nth 0 e 3) else [])

/-- This device's claim, sent while it is paired. -/
def State.ownClaim (s : State) (e : List Nat) : State :=
  if s.paired then (s.toPartner { type := 7, body := claimBody e }).meetClaim true e else s

end Sys2Proof.Machine
end

