-- ==== Sys2Proof/Machine/PlanerMath.lean ====
section
/-! DEFINITION. What the Planer computes (R162-R177): job descriptors, packing, the two update rules, the borrowed
passes of ORTHO. -/

namespace Sys2Proof.Machine

/-! ## Job descriptors (R165, R166) -/

namespace Pj
def digest (d : Nat) : Nat := fld d 487 448
def ns (d : Nat) : Nat := fld d 447 408
def mom (d : Nat) : Nat := fld d 407 368
def kerf (d : Nat) : Nat := fld d 367 328
def dw (d : Nat) : Nat := fld d 327 288
def grad (d : Nat) : Nat := fld d 287 248
def aux (d : Nat) : Nat := fld d 247 208
def work (d : Nat) : Nat := fld d 207 168
def master (d : Nat) : Nat := fld d 167 128
def cols (d : Nat) : Nat := fld d 127 96
def rows (d : Nat) : Nat := fld d 95 64
def job (d : Nat) : Nat := fld d 59 48
def coreset (d : Nat) : Nat := fld d 47 40
def layer (d : Nat) : Nat := fld d 39 24
def coef (d : Nat) : Nat := fld d 15 12
def stoch (d : Nat) : Bool := bit d 11
def fp8 (d : Nat) : Bool := bit d 10
def last (d : Nat) : Bool := bit d 9
def rule (d : Nat) : Nat := fld d 7 6
def phase (d : Nat) : Nat := fld d 5 4
def ortho (d : Nat) : Bool := rule d == 0
def e (d : Nat) : Nat := rows d * cols d
/-- Blocks of 32 elements, and slabs of 8,192 (R178). -/
def blocks (d : Nat) : Nat := cdiv (e d) 32
def slabs (d : Nat) : Nat := cdiv (e d) 8192
end Pj

/-- The checks of R166 over the descriptor alone. -/
def jobDescOk (d : Nat) : Bool :=
  fld d 511 488 == 0 && fld d 63 60 == 0 && fld d 23 16 == 0 && !bit d 8 && decide (Pj.rule d ≤ 1) && decide (Pj.phase d ≤ 1)
    && fld d 3 0 == 1 && Pj.e d != 0
    && ([Pj.digest d, Pj.mom d, Pj.kerf d, Pj.dw d, Pj.grad d, Pj.aux d, Pj.work d, Pj.master d].all fun a => a % 64 == 0)
    && (if Pj.ortho d then Pj.ns d % 64 == 0 else Pj.ns d == 0) && (!Pj.fp8 d || Pj.cols d % 32 == 0)

/-- The cores of a job's borrowed passes. -/
def State.jobCores (s : State) (c d : Nat) : List Nat := coreSet (smGet 0 (s.ctx c).coresets (Pj.coreset d))

/-- R166: an ORTHO UPDATE names cores that hold slots of the context. -/
def State.jobOk (s : State) (c d : Nat) : Bool :=
  jobDescOk d && (Pj.phase d != 1 || !Pj.ortho d || (s.jobCores c d).all fun k => holdsSlot (Rec.footprint (s.ctx c).record) k)

/-! ## Arithmetic of the lanes (R168-R173) -/

def f32One : Nat := 0x3F800000

/-- An element times its block scale, exactly; a NaN scale makes NaN (R52). -/
def scaledVal (v : Val) (scale : Nat) : Val :=
  match scaleExp scale with
  | none => .nan
  | some t => match v with
    | .fin n m e => .fin n m (e + t)
    | v => v

/-- round32 of an exact product. -/
def f32MulVal (a b : Val) : Nat := f32Of (mulCond a b) (a.neg != b.neg)

/-- The largest exponent of R59 among FP32 words. -/
def maxExp32 (l : List Nat) : Int := ((listMax 1 (l.map fun b => fld b 30 23) : Nat) : Int) - 126

/-- `pw` of R172: binary exponentiation from bit 63 down. -/
def pwGo (beta t : Nat) : Nat → Nat → Nat
  | 0, p => p
  | n + 1, p =>
    let p := f32Mul p p
    pwGo beta t n (if bit t n then f32Mul p beta else p)

def pw (beta t : Nat) : Nat := pwGo beta t 64 f32One

/-- A coefficient of a set, by subindex (R170). -/
def co (coef : List Nat) (sub : Nat) : Nat := nth 0 coef (sub - 1)

/-- m' and v' of R172. -/
def momentsOf (coef : List Nat) (m v g : Nat) : Nat × Nat :=
  let b1 := co coef 2
  let b2 := co coef 3
  (f32Fma b1 m (f32Mul (f32Sub f32One b1) g), f32Fma b2 v (f32Mul (f32Sub f32One b2) (f32Mul g g)))

/-- W' from a direction u: d = fma(lambda, W, u), W' = fma(-eta, d, W). -/
def descend (coef : List Nat) (w u : Nat) : Nat := f32Fma (co coef 1 ^^^ 2 ^ 31) (f32Fma (co coef 5) w u) w

/-- u of MOMENT2 (R172). -/
def moment2Dir (coef : List Nat) (step m v : Nat) : Nat :=
  let bias := bit (co coef 12) 1
  let c1 := if bias then f32Sub f32One (pw (co coef 2) (step + 1)) else f32One
  let c2 := if bias then f32Sub f32One (pw (co coef 3) (step + 1)) else f32One
  f32Div (f32Div m c1) (f32Add (f32Sqrt (f32Div v c2)) (co coef 4))

/-- sigma of ORTHO (R173). -/
def shapeScale (coef : List Nat) (d : Nat) : Nat :=
  if !bit (co coef 12) 2 then f32One
  else
    let q : Q := ⟨Pj.rows d, Pj.cols d⟩
    f32Sqrt (if q.lt Q.one then f32One else f32OfQ q)

/-- A BF16 rounding of one exact fma: a * b + c, FP32 words. -/
def bf16Fma (a b c : Nat) : Nat :=
  match fmaCond (f32 a) (f32 b) (f32 c) with
  | .exact q => if q.isZero then signBits .bf16 (fmaZeroNeg (f32 a) (f32 b) (f32 c)) 0 else (roundFp .bf16 .rne q).bits
  | k => (finish .bf16 .rne k).bits

/-- A BF16 rounding of one exact quotient. -/
def bf16Div (a b : Nat) : Nat :=
  match divCond (f32 a) (f32 b) with
  | .exact q => if q.isZero then signBits .bf16 ((f32 a).neg != (f32 b).neg) 0 else (roundFp .bf16 .rne q).bits
  | k => (finish .bf16 .rne k).bits

/-! ## The arrays of a job (R162, R165) -/

/-- FP32 words from a partition offset on. -/
def State.words (s : State) (c off n : Nat) : List Nat :=
  let bs := s.partRead c off (4 * n)
  (List.range n).map fun i => leAt bs (4 * i) 4

/-- First element and count of slab `k` (R178). -/
def slabSpan (d k : Nat) : Nat × Nat := (8192 * k, min 8192 (Pj.e d - 8192 * k))

/-- g of the slab's elements: round32(gamma * dequant(q)) (R171). -/
def State.gradOf (s : State) (c d gamma e0 n : Nat) : List Nat :=
  (List.range n).map fun i =>
    let q := decodeFp .e5m2 (s.partRead c (Pj.grad d + e0 + i) 1 |> leNat)
    let sc := s.partRead c (Pj.grad d + Pj.e d + (e0 + i) / 32) 1 |> leNat
    f32MulVal (f32 gamma) (scaledVal q sc)

/-- The home locations of a slab's staged state, in the order of R179: partition offset and length. -/
def slabHome (d sweep k : Nat) : List (Nat × Nat) :=
  let (e0, n) := slabSpan d k
  if sweep = 0 then
    (Pj.mom d + 4 * e0, 4 * n) :: (if Pj.ortho d then [] else [(Pj.mom d + 4 * Pj.e d + 4 * e0, 4 * n)])
  else
    let w := if Pj.fp8 d then 1 else 2
    [(Pj.master d + 4 * e0, 4 * n), (Pj.work d + w * e0, w * n)]
      ++ (if Pj.fp8 d then [(Pj.aux d + e0 / 32, cdiv n 32)] else [])

/-- The slab's home bytes as they stand. -/
def State.homeBytes (s : State) (c d sweep k : Nat) : List Byte := (slabHome d sweep k).flatMap fun r => s.partRead c r.1 r.2

/-- The slab checksum (R179): never zero. -/
def slabSum (bs : List Byte) : Nat := let x := crc64 bs; if x = 0 then 1 else x

/-- CRC-64 of the slab's gradient elements and scales (R187). -/
def State.gradSum (s : State) (c d k : Nat) : Nat :=
  let (e0, n) := slabSpan d k
  crc64 (s.partRead c (Pj.grad d + e0) n ++ s.partRead c (Pj.grad d + Pj.e d + e0 / 32) (cdiv n 32))

/-- An entry of the digest table (R195). -/
def State.digestAt (s : State) (c d sweep k : Nat) : Nat := leNat (s.partRead c (Pj.digest d + 16 * k + 8 * sweep) 8)

/-! ## NS scratch and the borrowed passes (R173, R174) -/

/-- Bytes of a BF16 tensor and its sidecar. -/
def bfBytes (r c : Nat) : Nat := 2 * r * c + roundUp (r + c) 64

/-- The six tensors of the scratch from NS_ADDR: X, X', P, A, AA, Bm (R174), as descriptors numbered 0-5. -/
def nsTensors (d : Nat) : List (Nat × Nat) :=
  let r := Pj.rows d
  let c := Pj.cols d
  let n := min r c
  let ten (fmt addr rows cols : Nat) (sc : Bool) : Nat :=
    fmt + 2 * 2 ^ 4 + 2 ^ 6 + addr * 2 ^ 8 + cols * 2 ^ 48 + rows * 2 ^ 80 + cols * 2 ^ 176
      + (if sc then (addr + 2 * rows * cols) * 2 ^ 342 + 2 * 2 ^ 382 + 2 ^ 384 else 0)
  let x := Pj.ns d
  let x' := x + bfBytes r c
  let p := x' + bfBytes r c
  let a := p + 4 * (r * c)
  let aa := a + bfBytes n n
  let bm := aa + 4 * (n * n)
  [(0, ten 5 x r c true), (1, ten 5 x' r c true), (2, ten 6 p r c false), (3, ten 5 a n n true), (4, ten 6 aa n n false),
    (5, ten 5 bm n n true)]

/-- The MATMUL descriptor of a borrowed pass. -/
def nsMatmul (a b c : Nat) (ta tb : Bool) : Nat :=
  1 + a * 2 ^ 8 + b * 2 ^ 20 + c * 2 ^ 32 + 0xFFF * 2 ^ 44 + 2 * 2 ^ 154 + 7 * 2 ^ 156 + b2n ta * 2 ^ 160 + b2n tb * 2 ^ 161

/-- One borrowed pass (R174): a MATMUL of the context over the scratch, on every core of CORESET. `e` is what the silicon does
to it. Answers the statuses that the cores add, or none when a core does not finish: the job's flight then holds what those cores
hold. -/
def State.borrow (s : State) (e : Env) (job c d m : Nat) : State × Option (List Status) :=
  let own := (s.ctx c).tensors
  let cores := s.jobCores c d
  let all := cores.zipIdx
  let s := (s.modCtx c fun x => { x with tensors := nsTensors d }).bump 0x8034 0x0A 1
  let touches := all.flatMap fun p => s.reach c m p.1 p.2
  let s := (e.contests.filter fun x => x.res != .tracker && s.contestOk c cores 1 touches x).foldl State.grant s
  let (s, st) := s.runCores e job c m (all.filter fun p => !e.hang.contains p.1 && !e.illegal.contains p.1)
  let st := st ++ (if cores.any fun k => e.illegal.contains k && !e.hang.contains k then [Status.illegalInstruction] else [])
  let hung := all.filter fun p => e.hang.contains p.1
  let (s, holds) := hung.foldl (fun (y : State × List CoreHold) p =>
    let (s, h) := y.1.hang e c m p.1 p.2
    (s, y.2 ++ [h])) (s, [])
  let s := (s.undeclare job).modCtx c fun x => { x with tensors := own }
  if hung = [] then (s, some st)
  else (s.modFlight job fun f => { f with cores := hung.map (·.1), found := f.found ++ st, holds := holds }, none)

/-- Where a scratch tensor stands: partition offset, bytes of its elements, bytes of its sidecar. -/
def scratchSpan (d num : Nat) : Nat × Nat × Nat :=
  let t := smGet 0 (nsTensors d) num
  let els := Ten.ext t 0 * Ten.ext t 1
  (Ten.addr t, els * ((Ten.fmtD t).bits / 8), if Ten.fmtD t = .bf16 then roundUp (Ten.ext t 0 + Ten.ext t 1) 64 else 0)

/-- A scratch tensor written by the Planer's lanes, with its sidecar when it is BF16 (R60, R174). -/
def State.putScratch (s : State) (c d num : Nat) (els : List Nat) : State :=
  let v := { s.view c 0 0 with tensors := nsTensors d, regs := [] }
  let r : Run := ⟨s.mem, s.ctr⟩
  let t := openTensor v r num
  let at' (i : Nat) : Nat × Nat := (i / t.cols, i % t.cols)
  let r := els.zipIdx.foldl (fun r p => putRC v r t (at' p.2).1 (at' p.2).2 p.1) r
  let mx := sidecarMax t.rows t.cols (els.zipIdx.map fun p => ((at' p.2).1, (at' p.2).2, p.1))
  let r := putSidecar v r t mx.1 mx.2
  { s with mem := r.mem, ctr := r.ctr }

/-- A scratch tensor's elements in linear order. -/
def State.getScratch (s : State) (c d num : Nat) : List Nat :=
  let v := { s.view c 0 0 with tensors := nsTensors d, regs := [] }
  let r : Run := ⟨s.mem, s.ctr⟩
  let t := openTensor v r num
  (List.range (t.rows * t.cols)).map fun i => getRC v r t (i / t.cols) (i % t.cols)

/-- FP32 word of a BF16 element. -/
def bfWord (x : Nat) : Nat := x % 2 ^ 16 * 2 ^ 16

/-- An orthogonalisation under way: the state, the statuses so far, whether a pass does not finish, and the environment of the next
borrowed pass. -/
structure Ns where
  s : State
  st : List Status
  hung : Bool
  e : Env
  deriving DecidableEq, Repr

/-- The next borrowed pass. The environment of the job is that of its first pass (log 65). -/
def Ns.pass (n : Ns) (job c d m : Nat) : Ns :=
  if n.hung then n
  else match n.s.borrow n.e job c d m with
    | (s, some st) => ⟨s, n.st ++ st, false, {}⟩
    | (s, none) => ⟨s, n.st, true, {}⟩

/-- A step of the Planer's lanes: it reads ranges of the partition and writes the scratch tensor `out`. -/
def Ns.lanes (n : Ns) (c d : Nat) (reads : List (Nat × Nat)) (out : Nat) (f : State → List Nat) : Ns :=
  if n.hung then n
  else
    let s := n.s
    let w := scratchSpan d out
    let t := (reads.zipIdx.flatMap fun p => s.partTouch c p.1.1 p.1.2 false p.2)
      ++ s.partTouch c w.1 w.2.1 true reads.length ++ s.partTouch c (w.1 + w.2.1) w.2.2 true (reads.length + 32)
    let (s', st) := (s.putScratch c d out (f s)).met c t s.mem
    { n with s := s', st := n.st ++ st }

/-- The range of a scratch tensor's elements, as a read. -/
def scratchRead (d num : Nat) : Nat × Nat := ((scratchSpan d num).1, (scratchSpan d num).2.1)

/-- One Newton-Schulz iteration from tensor `x` (0 or 1) into the other (R173). -/
def Ns.step (n : Ns) (job c d : Nat) (coef : List Nat) (x : Nat) : Ns :=
  let wide := decide (Pj.rows d ≤ Pj.cols d)
  let n := (n.pass job c d (nsMatmul x x 3 (!wide) wide)).pass job c d (nsMatmul 3 3 4 false false)
  let n := n.lanes c d [scratchRead d 3, scratchRead d 4] 5 fun s =>
    ((s.getScratch c d 3).zip (s.getScratch c d 4)).map fun p => bf16Fma (co coef 10) p.2 (f32Mul (co coef 9) (bfWord p.1))
  let n := n.pass job c d (if wide then nsMatmul 5 x 2 false false else nsMatmul x 5 2 false false)
  n.lanes c d [scratchRead d x, scratchRead d 2] (1 - x) fun s =>
    ((s.getScratch c d x).zip (s.getScratch c d 2)).map fun p => bf16Fma (co coef 8) (bfWord p.1) p.2

/-- Iterations of R173 from tensor `x` on. -/
def Ns.loop (n : Ns) (job c d : Nat) (coef : List Nat) : Nat → Nat → Ns
  | 0, _ => n
  | i + 1, x => (n.step job c d coef x).loop job c d coef i (1 - x)

/-- The orthogonalisation of R173 from the home M'. -/
def State.orthogonalise (s : State) (e : Env) (job c d : Nat) (coef : List Nat) : Ns :=
  let n : Ns := ⟨s.wake (s.jobCores c d), [], false, e⟩
  let n := n.lanes c d [(Pj.mom d, 4 * Pj.e d)] 0 fun s =>
    let m := s.words c (Pj.mom d) (Pj.e d)
    let ssq := (Machine.finish .fp32 .rne (anchoredSum (m.map fun x => mulCond (f32 x) (f32 x)))).bits
    let norm := f32Add (f32Sqrt ssq) (co coef 11)
    m.map fun x => bf16Div x norm
  n.loop job c d coef (co coef 7 % 16) 0

/-! ## What a slab's staged state is (R172, R173, R175, R179) -/

/-- O's elements of a slab, as FP32 words. -/
def State.orthoOut (s : State) (c d : Nat) (coef : List Nat) (e0 n : Nat) : List Nat :=
  let x := co coef 7 % 16 % 2
  let t := smGet 0 (nsTensors d) x
  let bs := s.partRead c (Ten.addr t + 2 * e0) (2 * n)
  (List.range n).map fun i => bfWord (leAt bs (2 * i) 2)

/-- The working copy of new weights and its block scales (R175). -/
def State.workBytes (s : State) (c d step e0 : Nat) (ws : List Nat) : List Byte :=
  let seed := s.get 0x4320 (c + 1)
  let rnd (i : Nat) : Rnd := if Pj.stoch d then .stoch (dxmDraw seed 1 c step (Pj.layer d) (e0 + i)) else .rne
  if Pj.fp8 d then
    let scale (b : Nat) : Int := max (maxExp32 ((ws.drop (32 * b)).take 32) - 8) (-127)
    let el (p : Nat × Nat) : Byte :=
      let v := match f32 p.1 with
        | .fin n m e => Val.fin n m (e - scale (p.2 / 32))
        | v => v
      BitVec.ofNat 8 (outVal .e4m3 (rnd p.2) v).bits
    ws.zipIdx.map el ++ (List.range (cdiv ws.length 32)).map fun b => BitVec.ofNat 8 (scale b + 127).toNat
  else ws.zipIdx.flatMap fun p => leBytes 2 (outVal .bf16 (rnd p.2) (f32 p.1)).bits

/-- The staged bytes of slab `k`. -/
def State.slabBytes (s : State) (j : Job) (sweep k : Nat) : List Byte :=
  let d := j.desc.toNat
  let (e0, n) := slabSpan d k
  let c := j.ctx
  let w32 (l : List Nat) : List Byte := l.flatMap (leBytes 4)
  let m := s.words c (Pj.mom d + 4 * e0) n
  if sweep = 0 then
    let g := s.gradOf c d (co j.coef 6) e0 n
    if Pj.ortho d then w32 ((m.zip g).map fun p => f32Fma (co j.coef 2) p.1 p.2)
    else
      let v := s.words c (Pj.mom d + 4 * Pj.e d + 4 * e0) n
      let r := (m.zip (v.zip g)).map fun p => momentsOf j.coef p.1 p.2.1 p.2.2
      w32 (r.map (·.1)) ++ w32 (r.map (·.2))
  else
    let w := s.words c (Pj.master d + 4 * e0) n
    let u := if Pj.ortho d then (s.orthoOut c d j.coef e0 n).map fun o => f32Mul (shapeScale j.coef d) o
      else
        let v := s.words c (Pj.mom d + 4 * Pj.e d + 4 * e0) n
        (m.zip v).map fun p => moment2Dir j.coef j.step p.1 p.2
    let new := (w.zip u).map fun p => descend j.coef p.1 p.2
    w32 new ++ s.workBytes c d j.step e0 new

/-- The partition ranges that computing slab `k` reads. -/
def slabReads (j : Job) (sweep k : Nat) : List (Nat × Nat) :=
  let d := j.desc.toNat
  let (e0, n) := slabSpan d k
  let mom := slabHome d 0 k
  if sweep = 0 then mom ++ [(Pj.grad d + e0, n), (Pj.grad d + Pj.e d + e0 / 32, cdiv n 32)]
  else
    (Pj.master d + 4 * e0, 4 * n) :: (if Pj.ortho d then [(Ten.addr (smGet 0 (nsTensors d) (co j.coef 7 % 16 % 2)) + 2 * e0, 2 * n)]
      else mom)

/-! ## PACK (R168, R169) -/

/-- One block of R168: gradient elements and scale, new Kerf elements and scale, and whether it is non-finite. -/
def packBlock (dw kerf : List Nat) (kscale : Nat) : List Nat × Nat × List Nat × Nat × Bool :=
  let g := (dw.zip kerf).map fun p =>
    let a := decodeFp .bf16 p.1
    let b := scaledVal (decodeFp .e4m3 p.2) kscale
    f32Of (addCond a b) (zeroSumNeg a b)
  if g.any fun x => fld x 30 23 == 255 then (g.map fun _ => 0, 0xFF, g.map fun _ => 0, 0, true)
  else
    let sc := max (maxExp32 g - 15) (-127)
    let q := g.map fun x => match f32 x with
      | .fin n m e => (outVal .e5m2 .rne (.fin n m (e - sc))).bits
      | _ => 0
    let r := (g.zip q).map fun p => (f32 p.1).q.sub ((decodeFp .e5m2 p.2).q.scale sc)
    let ks := max (r.foldl (fun m x => max m (exactExp x)) (-125) - 8) (-127)
    let k := r.map fun x => (roundFp .e4m3 .rne (x.scale (-ks))).bits
    (q, (sc + 127).toNat, k, (ks + 127).toNat, false)

/-- Where Kerf buffer `p` begins (R163, R165). -/
def kerfBuf (d p : Nat) : Nat := Pj.kerf d + p * (Pj.e d + Pj.blocks d)

/-- One block of a PACK job: its bytes written, and its accesses. -/
def State.packOne (s : State) (c d old new b : Nat) : State × List Touch :=
  let e := Pj.e d
  let n := min 32 (e - 32 * b)
  let dws := s.partRead c (Pj.dw d + 64 * b) (2 * n)
  let o := packBlock ((List.range n).map fun i => leAt dws (2 * i) 2)
    ((s.partRead c (old + 32 * b) n).map (·.toNat)) (leNat (s.partRead c (old + e + b) 1))
  let put (s : State) (a : Nat) (l : List Nat) : State := s.partWrite c a (l.map (BitVec.ofNat 8))
  let s1 := put (put s (Pj.grad d + 32 * b) o.1) (Pj.grad d + e + b) [o.2.1]
  let s1 := put (put s1 (new + 32 * b) o.2.2.1) (new + e + b) [o.2.2.2.1]
  (s1.bump 0x8034 8 (b2n o.2.2.2.2),
    s.partTouch c (Pj.dw d + 64 * b) (2 * n) false 0 ++ s.partTouch c (old + 32 * b) n false 1 ++ s.partTouch c (old + e + b) 1 false 17
      ++ s.partTouch c (Pj.grad d + 32 * b) n true 2 ++ s.partTouch c (Pj.grad d + e + b) 1 true 18
      ++ s.partTouch c (new + 32 * b) n true 3 ++ s.partTouch c (new + e + b) 1 true 19)

/-- The first `nb` blocks of a PACK job, in order (R168, R185). -/
def State.packJob (s : State) (c d nb : Nat) : State × List Status :=
  let step := s.get 0x4321 (c + 1)
  let old := kerfBuf d (step % 2)
  let new := kerfBuf d ((step + 1) % 2)
  let (s1, t) := (List.range nb).foldl (fun (x : State × List Touch) b =>
    let (s, t) := x.1.packOne c d old new b
    (s, x.2 ++ t)) (s, [])
  s1.met c t s.mem

end Sys2Proof.Machine
end

