-- ==== Sys2Proof/Machine/Planer.lean ====
section
/-! DEFINITION. The Planer as it runs jobs: queue, journal, staging, home, agreement, arbitration, drift
(R164, R167, R176-R200). -/

namespace Sys2Proof.Machine

/-! ## The journal (R181-R183) -/

namespace Jr
def aux (r : Nat) : Nat := fld r 63 32
def state (r : Nat) : Nat := fld r 99 96
def unpaired (r : Nat) : Bool := bit r 108
def half (r : Nat) : Nat := fld r 109 109
def ctx (r : Nat) : Nat := fld r 115 110
def job (r : Nat) : Nat := fld r 127 116
def step (r : Nat) : Nat := fld r 159 128
def slab (r : Nat) : Nat := fld r 191 160
def sum (r : Nat) : Nat := fld r 255 192
end Jr

def State.half (s : State) (h : Nat) : Half := nth {} s.plan.halves h

def State.modPlan (s : State) (f : Planer → Planer) : State := { s with plan := f s.plan }

def State.modHalf (s : State) (h : Nat) (f : Half → Half) : State :=
  s.modPlan fun p => { p with halves := modNth p.halves h f }

/-- A journal record (R182). -/
def journalRecord (j : Job) (half seq state k sum aux : Nat) (unpaired : Bool) : Nat :=
  let v := aux % 2 ^ 32 * 2 ^ 32 + seq % 2 ^ 32 * 2 ^ 64 + state % 16 * 2 ^ 96 + b2n unpaired * 2 ^ 108 + half % 2 * 2 ^ 109
    + j.ctx % 64 * 2 ^ 110 + Pj.job j.desc.toNat * 2 ^ 116 + j.step % 2 ^ 32 * 2 ^ 128 + k % 2 ^ 32 * 2 ^ 160 + sum % 2 ^ 64 * 2 ^ 192
  v + crc32 (leBytes 28 (v / 2 ^ 32))

/-- A record written: durable in the journal buffer (R181). -/
def State.journal (s : State) (j : Job) (half state k sum aux : Nat) (unpaired : Bool) : State :=
  let seq := (s.half half).seq
  s.modHalf half fun x =>
    { x with seq := (seq + 1) % 2 ^ 32, buffer := x.buffer ++ [journalRecord j half seq state k sum aux unpaired] }

/-- The journal rings without the oldest `a` records of half 0 and `b` of half 1. -/
def dropOldest : Nat → Nat → List Nat → List Nat
  | _, _, [] => []
  | a, b, r :: rs =>
    if Jr.half r = 0 then (if 0 < a then dropOldest (a - 1) b rs else r :: dropOldest a b rs)
    else if 0 < b then dropOldest a (b - 1) rs else r :: dropOldest a b rs

/-- Records that the journal area of the NVS holds for each half (DESIGN CHOICE, log 11): 64 MiB less the image, the fault log and
the dumps leave 8 MiB. -/
def ringRecords : Nat := 131072

/-- How many records of a half stand in the rings beyond its area. -/
def ringExcess (ring : List Nat) (h : Nat) : Nat := (ring.filter fun r => Jr.half r == h).length - ringRecords

/-- The rings keep the latest records of each half (R2, R181). -/
def keepRing (ring l : List Nat) : List Nat := dropOldest (ringExcess ring 0) (ringExcess ring 1) l

/-- The journal buffer reaches the NVS ring (R181), whose oldest records make room. -/
def State.drainJournal (s : State) : State :=
  let all := s.plan.ring ++ s.plan.halves.flatMap (·.buffer)
  s.modPlan fun p => { p with
    ring := keepRing all all, void := (keepRing all (all.take p.void)).length,
    halves := p.halves.map fun h => { h with buffer := [] } }

/-- JOURNAL_DRAIN (R181): every 1 ms. -/
def execJournalDrain (s : State) : Host.Outcome State Fault Refusal := .next s.drainJournal

/-- The records of a half that a job of this context, number and step has left and no package reset has voided. -/
def State.records (s : State) (c job step half : Nat) : List Nat :=
  (s.plan.ring.drop s.plan.void ++ (s.half half).buffer).filter fun r =>
    Jr.ctx r == c && Jr.job r == job && Jr.step r == step && Jr.half r == half

/-! ## Staging slots (R179) -/

/-- Flat address of staging slot `j mod 64` of a half: behind its own die, at the start of the reserved rows of its first stack. -/
def slotAddr (half k : Nat) : Nat := rsvBase + 4 * half * (32 * mib) + (k / 2 % 64) * 65536

/-- Bytes staged for slab `k`. -/
def stagedLen (d sweep k : Nat) : Nat := ((slabHome d sweep k).map (·.2)).foldl (· + ·) 0

def State.stagedBytes (s : State) (d sweep k : Nat) : List Byte := readBytes s.mem s.ue (slotAddr (k % 2) k) (stagedLen d sweep k)

/-- Bytes stored in a staging slot: whole lines get fresh check bits. -/
def State.putStage (s : State) (k : Nat) (bs : List Byte) : State :=
  let a := slotAddr (k % 2) k
  { s with mem := memWrs s.mem a bs, ue := smDrop (fun u => decide (a ≤ u) && decide (u + 64 ≤ a + roundUp bs.length 64)) s.ue }

/-! ## The job in hand -/

def State.modJob (s : State) (f : Job → Job) : State := s.modPlan fun p => { p with job := p.job.map f }

/-- The sweep of a phase, and the journal codes of its STAGED, AGREED and HOME records. -/
def Job.sweep (j : Job) : Nat := if j.phase = .weights then 1 else 0

def stagedCode (sweep : Nat) : Nat := if sweep = 0 then 2 else 6

/-- The coefficient set as JOB_START carries it: the objects in subindex order, each little-endian in its own width, padded
to 64 bytes (the layout is the model's). -/
def coefBytes (coef : List Nat) : List Byte :=
  padTo 64 (coef.zipIdx.flatMap fun p => leBytes (if p.2 = 6 ∨ p.2 = 11 then 1 else 4) p.1)

def State.readCoefs (s : State) (set : Nat) : List Nat := (List.range 12).map fun i => s.get (0x4310 + set) (i + 1)

/-- The JOB_START of a job (R187): a descriptor and object values as they stand in memory, and CTX_STEP, a field of the packet
(R8). -/
def startBytes (j : Job) : List Byte := leBytes 64 j.desc.toNat ++ coefBytes j.coef ++ beBytes 4 j.step

/-- The bodies of RECHECK, KAT_RESULT and DRIFT_FETCH (R187), big-endian (R8). -/
def recheckBody (k : Nat) (sums : List Nat) : List Byte := beBytes 4 k ++ sums.flatMap (beBytes 8)

def katBody (k : Nat) (pass : Bool) : List Byte := beBytes 4 k ++ beBytes 1 (b2n pass)

def fetchBody (id : SlabId) : List Byte := beBytes 1 id.ctx ++ beBytes 2 id.job ++ beBytes 4 id.k ++ beBytes 1 id.sweep

/-- The final completion of the flight the Planer serves: CTX_STEP advances first (R177), DRIFT_REPAIRED is carried once
(R197). -/
def State.finishJob (s : State) (f : Flight) (d : Nat) (st : List Status) : State :=
  let key := (f.ctx, Pj.job d)
  let update := Pj.phase d == 1
  let fix := update && s.plan.repaired.contains key
  let st := st ++ (if fix then [Status.driftRepaired] else [])
  let final := firstStatus (f.found ++ st)
  let step := s.get 0x4321 (f.ctx + 1)
  let s := if Pj.last d && final.valid then s.set 0x4321 (f.ctx + 1) ((step + 1) % 2 ^ 32) else s
  let known := s.plan.known.filter fun k => !(k.1 == f.ctx && k.2.1 == Pj.job d)
  let s := s.modPlan fun p => { p with
    known := if update && final.valid then known ++ [(f.ctx, Pj.job d, BitVec.ofNat 512 d)] else p.known,
    repaired := if fix then p.repaired.erase key else p.repaired, frozen := p.frozen.filter (· != f.id) }
  s.finish f st

/-- A half's wait for a staging slot ends: its time is counted, in steps of one Pavane cycle (R190). -/
def State.stallEnd (s : State) (h : Nat) : State :=
  match (s.half h).stalled with
  | none => s
  | some t => (s.modHalf h fun x => { x with stalled := none }).bump 0x8034 2 ((s.time - t) * 40)

/-- A half that has every slot taken and a slab still to compute waits from now on (R190). -/
def State.stallFrom (s : State) (h : Nat) : State :=
  match s.plan.job with
  | none => s
  | some j =>
    if (s.half h).staged.length < 64 ∨ Pj.slabs j.desc.toNat ≤ nth 0 j.next h then s
    else s.modHalf h fun x => { x with stalled := some (x.stalled.getD s.time) }

/-- What the halves hold of a job is dropped. -/
def State.clearHalves (s : State) : State :=
  let s := (s.stallEnd 0).stallEnd 1
  s.modPlan fun p => { p with halves := p.halves.map fun h => { h with staged := [], arbit := none, agrees := [] } }

/-- The job in hand ends with its flight's final completion. -/
def State.endJob (s : State) (st : List Status) : State :=
  match s.plan.job with
  | none => s
  | some j =>
    let s := s.clearHalves.modPlan fun p => { p with job := none }
    match s.flight j.flight with
    | some f => s.finishJob f j.desc.toNat (j.found ++ st)
    | none => s

/-- The job stops at a slab boundary and can be resumed (R185); a PACK stops at a block boundary, with no journal, and runs again
from its first block. -/
def State.stopJob (s : State) (st : Status) : State :=
  match s.plan.job with
  | none => s
  | some j =>
    if Pj.phase j.desc.toNat = 0 then s.endJob [st] else
    let s := if j.phase = .awaitPartner then s
      else (s.journal j 0 0xD 0 0 0 false).journal j 1 0xD 0 0 0 false
    let same (x : Job) : Bool := x.ctx == j.ctx && Pj.job x.desc.toNat == Pj.job j.desc.toNat && x.step == j.step
    let s := s.modPlan fun p => { p with stopped := p.stopped.filter (fun x => !same x) ++ [j] }
    s.endJob [st]

/-! ## Sweeps begin and end -/

/-- The last slab of a half is home when none is left. -/
def halfDone (d h home : Nat) : Bool := decide (Pj.slabs d ≤ home) || decide (Pj.slabs d ≤ h)

/-! ## Agreement (R188, R189, R194) -/

def State.setStaged (s : State) (k : Nat) (f : Staged → Staged) : State :=
  s.modHalf (k % 2) fun x => { x with staged := mapIf (fun t => t.k == k) f x.staged }

def State.stagedOf (s : State) (k : Nat) : Option Staged := (s.half (k % 2)).staged.find? fun t => t.k == k

/-- A slab agreed: its AGREED record is durable. -/
def State.agreeSlab (s : State) (j : Job) (k sum : Nat) (unpaired : Bool) : State :=
  let s := s.journal j (k % 2) (stagedCode j.sweep + 1) k sum 0 unpaired
  s.setStaged k fun t => { t with agreed := true, unpaired := unpaired }

/-- The recomputed slab and the checksums of RECHECK (R187, R191): slab sum, gradient, old home state. -/
def State.recheckSums (s : State) (j : Job) (k : Nat) (again : List Byte) : List Nat :=
  [slabSum again, s.gradSum j.ctx j.desc.toNat k, slabSum (s.homeBytes j.ctx j.desc.toNat j.sweep k)]

/-- ARBITRATION(k) with its outcome (R191, R192). -/
def State.arbitrated (s : State) (k code : Nat) : State :=
  match s.plan.job with
  | none => s
  | some j =>
    let h := k % 2
    let sum := ((s.stagedOf k).map (·.sum)).getD 0
    let s := s.journal j h 0xA k sum code false
    let r := (s.half h).buffer.getLast?.getD 0
    let s := (s.set 0x4331 1 r).modHalf h fun x => { x with arbit := none }
    let log (s : State) (kind : Nat) : State := s.logAdd { kind := kind, unit := some (4 + h), ctx := j.ctx, detail := leBytes 28 r }
    if code = 6 ∨ code = 7 ∨ code = 8 then
      let s := (s.bump 0x8034 5 1).modJob fun j => { j with phase := .halted }
      log ((s.journal j 0 0xC 0 0 0 false).journal j 1 0xC 0 0 0 false) 0x31
    else
      let s := (s.bump 0x8034 3 1).modJob fun j => { j with found := j.found ++ [.diverged] }
      if code = 2 ∨ code = 4 then log (s.bump 0x8034 4 1) 0x30 else s

/-- The body of SLAB_XFER (R187): its fields big-endian (R8), then the staged bytes. -/
def xferBytes (k sweep : Nat) (bs : List Byte) : List Byte := beBytes 4 k ++ beBytes 1 sweep ++ bs

/-- Each outcome of R191 once it is reached. -/
def State.arbOutcome (s : State) (j : Job) (k code : Nat) : State :=
  if code = 2 ∨ code = 4 then s.modHalf (k % 2) fun x => { x with arbit := x.arbit.map fun a => { a with await := some code } }
  else if code = 1 ∨ code = 3 then
    let bs := s.stagedBytes j.desc.toNat j.sweep k
    let s := s.setStaged k fun t => { t with agreed := true, code := some code }
    s.toPartner { type := 0x14, body := xferBytes k j.sweep bs }
  else s.arbitrated k code

/-- A slab computed again and offered once more after the old state is repaired (R191, order 4). -/
def State.restage (s : State) (j : Job) (k : Nat) : State :=
  let bs := s.slabBytes j j.sweep k
  let sum := slabSum bs
  let s := (s.putStage k bs).journal j (k % 2) (stagedCode j.sweep) k sum 0 false
  let r := (s.half (k % 2)).buffer.getLast?.getD 0
  let s := s.setStaged k fun t => { t with sum := sum }
  s.toPartner { type := 0x11, body := leBytes 32 r }

/-- R191 once both RECHECKs are known. -/
def State.decideArb (s : State) (j : Job) (k : Nat) : State :=
  match (s.half (k % 2)).arbit, s.stagedOf k with
  | some a, some t =>
    match a.partner with
    | none => s
    | some p =>
      let selfOdd := nth 0 a.own 0 != t.sum
      let partOdd := nth 0 p 0 != a.partnerSum
      let entry := s.digestAt j.ctx j.desc.toNat j.sweep k
      let ownOld := entry != 0 && nth 0 a.own 2 != entry
      let partOld := entry != 0 && nth 0 p 2 != entry
      if selfOdd && partOdd then s.arbOutcome j k 6
      else if selfOdd then s.arbOutcome j k 2
      else if partOdd then s.arbOutcome j k 1
      else if ownOld != partOld then
        let s := s.modHalf (k % 2) fun x => { x with arbit := some { a with second := true, partner := none } }
        if ownOld then
          let id : SlabId := ⟨j.ctx, Pj.job j.desc.toNat, k, j.sweep⟩
          (s.modPlan fun p => { p with repairing := p.repairing ++ [id] }).toPartner
            { type := 0x15, body := fetchBody id }
        else s.restage j k
      else if nth 0 a.own 1 != nth 0 p 1 then s.arbOutcome j k 7
      else
        match a.ownKat, a.partnerKat with
        | some x, some y => s.arbOutcome j k (if x = y then 8 else if x then 3 else 4)
        | _, _ => s
  | _, _ => s

/-- Checksums differ: arbitration begins (R191); a second disagreement after order 4 is undecided. -/
def State.startArb (s : State) (j : Job) (k partnerSum : Nat) (again : List Byte) : State :=
  match (s.half (k % 2)).arbit with
  | some a => if a.k = k then s.arbOutcome j k 8 else s
  | none =>
    let own := s.recheckSums j k again
    let a : Arbit := { k := k, partnerSum := partnerSum, own := own, partner := none, ownKat := none, partnerKat := none,
                       await := none, second := false }
    (s.modHalf (k % 2) fun x => { x with arbit := some a }).toPartner
      { type := 0x12, body := recheckBody k own }

/-- Does the arbitration of a slab wait for the repair of this device's old state (R191, order 4)? -/
def State.awaitsRepair (s : State) (j : Job) (k : Nat) : Bool :=
  ((s.half (k % 2)).arbit.any fun a => a.k == k && a.second)
    && s.plan.repairing.contains ⟨j.ctx, Pj.job j.desc.toNat, k, j.sweep⟩

/-- The partner's AGREE for a slab, if it is here: equal checksums agree it, different ones start arbitration. A device whose old
state is under repair first computes the slab again. -/
def State.tryAgree (s : State) (k : Nat) (again : List Byte) : State :=
  match s.plan.job, s.stagedOf k with
  | some j, some t =>
    let mine (r : Nat) : Bool := Jr.ctx r == j.ctx && Jr.job r == Pj.job j.desc.toNat && Jr.step r == j.step
      && Jr.state r == stagedCode j.sweep && Jr.slab r == k
    match (s.half (k % 2)).agrees.find? mine with
    | none => s
    | some r =>
      if t.agreed || s.awaitsRepair j k then s
      else
        let s := s.modHalf (k % 2) fun x => { x with agrees := x.agrees.erase r }
        if Jr.sum r ≠ t.sum then s.startArb j k (Jr.sum r) again
        else
          let code := ((s.half (k % 2)).arbit).bind fun a => if a.k = k then some 5 else none
          let s := s.modHalf (k % 2) fun x => { x with arbit := if code.isSome then none else x.arbit }
          (s.agreeSlab j k t.sum false).setStaged k fun t => { t with code := code }
  | _, _ => s

/-- Errors of the silicon in a computed slab: masks over its bytes. -/
def withErrors (bs : List Byte) (err : List (Nat × Nat)) : List Byte :=
  err.foldl (fun l e => modNth l e.1 fun b => b ^^^ BitVec.ofNat 8 e.2) bs

/-! ## SLAB_STAGED (R179, R185, R189, R190) -/

/-- Is a range of the context's partition uncorrectable to a read? -/
def State.rangeBad (s : State) (c : Nat) (l : List (Nat × Nat)) : Bool :=
  l.any fun r => (List.range r.2).any fun i => s.badAt (s.partAddr c (r.1 + i))

/-- A committed slab is asked from the partner (R197). -/
def State.driftFetch (s : State) (id : SlabId) : State :=
  let s := if s.plan.repairing.contains id then s else s.modPlan fun p => { p with repairing := p.repairing ++ [id] }
  s.toPartner { type := 0x15, body := fetchBody id }

/-! ## Sweeps begin and end (R175, R180, R183-R185) -/

/-- A half resumes from its records (R184, R186): the first slab not home, and the slabs staged from there on whose checksums
hold; a STAGED slab that fails is computed again, an AGREED one is fetched, or stops the job. -/
def State.resumeHalf (s : State) (j : Job) (h : Nat) (recs : List Nat) : State × List Status :=
  let d := j.desc.toNat
  let sw := j.sweep
  let mine := (List.range (Pj.slabs d)).filter fun k => k % 2 == h
  let has (code k : Nat) : Bool := recs.any fun r => Jr.state r == code && Jr.slab r == k
  let homed (k : Nat) : Bool := has (stagedCode sw + 2) k
  let first := (mine.find? fun k => !homed k).getD (Pj.slabs d + (Pj.slabs d + h) % 2)
  let last (k : Nat) : Nat := (recs.filter fun r => Jr.slab r == k && (Jr.state r == stagedCode sw || Jr.state r == stagedCode sw + 1)).getLast?.getD 0
  let waits := (mine.dropWhile fun k => k < first).takeWhile fun k => has (stagedCode sw) k
  let ok (k : Nat) : Bool := slabSum (s.stagedBytes d sw k) == Jr.sum (last k)
  let agreed (k : Nat) : Bool := Jr.state (last k) == stagedCode sw + 1
  let keep := waits.takeWhile fun k => ok k || (agreed k && s.paired)
  let lostAgreed := (waits.drop keep.length).head?.any agreed
  let s := s.modJob fun x => { x with next := modNth x.next h fun _ => first + 2 * keep.length, home := modNth x.home h fun _ => first }
  let entry (k : Nat) : Staged :=
    { k := k, sum := Jr.sum (last k), agreed := agreed k, unpaired := Jr.unpaired (last k), fetch := !ok k, code := none }
  let s := s.modHalf h fun x => { x with staged := keep.map entry, arbit := none }
  let s := keep.foldl (fun s k =>
    if !ok k then s.driftFetch ⟨j.ctx, Pj.job d, k, sw⟩
    else if agreed k then s
    else if s.paired then (s.toPartner { type := 0x11, body := leBytes 32 (last k) }).tryAgree k (s.slabBytes j sw k)
    else s.agreeSlab j k (Jr.sum (last k)) true) s
  (s, if lostAgreed then [.memUncorrectable] else [])

/-- The committed slabs of a sweep whose home state a read finds uncorrectable. -/
def State.badSlabs (s : State) (j : Job) (sweep : Nat) (ranges : Nat → List (Nat × Nat)) : List SlabId :=
  ((List.range (Pj.slabs j.desc.toNat)).filter fun k => s.rangeBad j.ctx (ranges k)).map fun k =>
    ⟨j.ctx, Pj.job j.desc.toNat, k, sweep⟩

/-- Committed state that a read of the job found uncorrectable is asked from the partner; where it cannot be had, the job stops
(R185, R197). -/
def State.fetchOrStop (s : State) (d : Nat) (ids : List SlabId) : State :=
  if s.paired && ids.all fun id => s.digestAt id.ctx d id.sweep id.k != 0 && !s.plan.drifted.contains id then
    ids.foldl State.driftFetch s
  else s.stopJob .memUncorrectable

/-- Is a slab of the job under repair in a sweep? -/
def State.repairs (s : State) (j : Job) (sweep : Nat) : Bool :=
  s.plan.repairing.any fun r => r.ctx == j.ctx && r.job == Pj.job j.desc.toNat && r.sweep == sweep

/-- The Planer reads the whole working copy and writes the sidecar of a BF16 one, once every slab is home (R175). -/
def State.workSidecar (s : State) (c d : Nat) : State × List Status :=
  let n := 2 * Pj.e d
  let before := s.mem
  if Pj.fp8 d then
    s.met c (s.partTouch c (Pj.work d) (Pj.e d) false 0 ++ s.partTouch c (Pj.aux d) (Pj.blocks d) false 1) before
  else
    let bs := s.partRead c (Pj.work d) n
    let els := (List.range (Pj.e d)).map fun i => (i / Pj.cols d, i % Pj.cols d, leAt bs (2 * i) 2)
    let mx := sidecarMax (Pj.rows d) (Pj.cols d) els
    let sc := sidecarBytes mx.1 mx.2
    let s := s.partWrite c (Pj.aux d) sc
    s.met c (s.partTouch c (Pj.work d) n false 0 ++ s.partTouch c (Pj.aux d) sc.length true 1) before

/-- Both halves' weights are home (R175, R183): the sidecar, JOB_DONE, the drain, the final completion. An uncorrectable read of
the working copy waits for its repair, or stops the job (R185, R197). -/
def State.tryDone (s : State) : State :=
  match s.plan.job with
  | none => s
  | some j =>
    let d := j.desc.toNat
    if j.phase ≠ .weights ∨ !halfDone d 0 (nth 0 j.home 0) ∨ !halfDone d 1 (nth 0 j.home 1) ∨ s.repairs j 1 then s
    else
      match s.badSlabs j 1 fun k => (slabHome d 1 k).tail with
      | [] =>
        let (s, st) := s.workSidecar j.ctx d
        (((s.journal j 0 9 0 0 0 false).journal j 1 9 0 0 0 false).drainJournal).endJob st
      | ids =>
        let t := ids.flatMap fun id => (slabHome d 1 id.k).tail.flatMap fun r => s.partTouch j.ctx r.1 r.2 false 0
        (s.met j.ctx t s.mem).1.fetchOrStop d ids

/-- The weight sweep begins, or goes on from its records (R180, R184). -/
def State.beginWeights (s : State) : State :=
  match s.plan.job with
  | none => s
  | some j =>
    let j := { j with phase := .weights, next := [0, 1], home := [0, 1], env := {} }
    let recs (h : Nat) : List Nat := s.records j.ctx (Pj.job j.desc.toNat) j.step h
    let (r0, r1) := (recs 0, recs 1)
    let (s, f0) := (s.modJob fun _ => j).resumeHalf j 0 r0
    let (s, f1) := s.resumeHalf j 1 r1
    if f0 ++ f1 ≠ [] then s.stopJob .memUncorrectable else s.tryDone

/-- The orthogonalisation of an ORTHO job (R173, R180, R185): it waits for cores that are being reset and for moments under
repair, and a borrowed pass that does not finish holds it; a fenced die or a fault of a pass stops the job. -/
def State.tryOrtho (s : State) : State :=
  match s.plan.job with
  | none => s
  | some j =>
    let d := j.desc.toNat
    let cores := s.jobCores j.ctx d
    let hung := (s.flight j.flight).any fun f => f.cores != []
    if j.phase ≠ .ortho ∨ hung ∨ s.repairs j 0 then s
    else if cores.any fun k => s.dieState (dieOfCore k) != 3 then s.stopJob .dieLost
    else if cores.any (s.coreWaits j.ctx) then s
    else
      match s.badSlabs j 0 (slabHome d 0) with
      | [] =>
        let n := s.orthogonalise j.env j.flight j.ctx d j.coef
        if n.hung then n.s else if n.st ≠ [] then n.s.stopJob (firstStatus n.st) else n.s.beginWeights
      | ids =>
        let t := ids.flatMap fun id => (slabHome d 0 id.k).flatMap fun r => s.partTouch j.ctx r.1 r.2 false 0
        (s.met j.ctx t s.mem).1.fetchOrStop d ids

/-- Both halves have recorded MOMENTS_DONE (R180): ORTHO orthogonalises, then the weight sweep begins. -/
def State.startWeights (s : State) (j : Job) : State :=
  if Pj.ortho j.desc.toNat then (s.modJob fun j => { j with phase := .ortho }).tryOrtho else s.beginWeights

/-- The job goes on where it waited for a repair or for its cores. -/
def State.jobGoesOn (s : State) : State := s.tryOrtho.tryDone

/-- A half past its last slab records MOMENTS_DONE; when both have, the job goes on. -/
def State.sweepEnd (s : State) (h : Nat) : State :=
  match s.plan.job with
  | none => s
  | some j =>
    let d := j.desc.toNat
    if !halfDone d h (nth 0 j.home h) then s
    else if j.phase = .moments then
      let s := s.journal j h 5 0 0 0 false
      if (s.records j.ctx (Pj.job d) j.step (1 - h)).any fun r => Jr.state r == 5 then s.startWeights j else s
    else s.tryDone

/-- The computation of a half's next slab ends (R179). An uncorrectable read of committed state is repaired from the partner
where it can be, and else stops the job (R185, R197). -/
def State.slabStaged (s : State) (h : Nat) (err again : List (Nat × Nat)) : State :=
  match s.plan.job with
  | none => s
  | some j =>
    let d := j.desc.toNat
    let k := nth 0 j.next h
    let busy := s.plan.repairing.any fun r => r.ctx == j.ctx && r.job == Pj.job d && r.k == k
    if (j.phase ≠ .moments ∧ j.phase ≠ .weights) ∨ 2 ≤ h ∨ Pj.slabs d ≤ k ∨ 64 ≤ (s.half h).staged.length ∨ busy
        ∨ s.retaining then s
    else
      let sw := j.sweep
      let reads := slabReads j sw k
      let t := reads.zipIdx.flatMap fun r => s.partTouch j.ctx r.1.1 r.1.2 false r.2
      if s.rangeBad j.ctx reads then
        let bad (x : Nat) : Bool := s.rangeBad j.ctx (reads.filter (slabHome d x k).contains)
        let other := s.rangeBad j.ctx (reads.filter fun r => !(slabHome d 0 k).contains r && !(slabHome d 1 k).contains r)
        let ids : List SlabId := ([0, 1].filter bad).map fun x => ⟨j.ctx, Pj.job d, k, x⟩
        let (s, _) := s.met j.ctx t s.mem
        if other then s.stopJob .memUncorrectable else s.fetchOrStop d ids
      else
        let (s, _) := s.met j.ctx t s.mem
        let good := s.slabBytes j sw k
        let bs := withErrors good err
        let sum := slabSum bs
        let s := (s.putStage k bs).journal j h (stagedCode sw) k sum 0 false
        let r := (s.half h).buffer.getLast?.getD 0
        let entry : Staged := { k := k, sum := sum, agreed := false, unpaired := false, fetch := false, code := none }
        let s := (s.modHalf h fun x => { x with staged := x.staged ++ [entry] }).modJob fun j =>
          { j with next := modNth j.next h (· + 2) }
        let s := s.stallFrom h
        if s.paired then
          (s.toPartner { type := 0x11, body := leBytes 32 r }).tryAgree k (withErrors good again)
        else s.agreeSlab j k sum true

/-- AGREE (R189): the partner's STAGED record. -/
def State.agree (s : State) (r : Nat) (again : List (Nat × Nat)) : State :=
  s.onMsg 1 { type := 0x11, body := leBytes 32 r } fun s =>
  if !s.paired then s
  else
    let k := Jr.slab r
    let s := s.modHalf (k % 2) fun x => { x with agrees := x.agrees ++ [r] }
    match s.plan.job with
    | some j =>
      if j.phase = .moments ∨ j.phase = .weights then
        s.tryAgree k (withErrors (s.slabBytes j j.sweep k) again)
      else s
    | none => s

def execAgree (r : Nat) (again : List (Nat × Nat)) (s : State) : Host.Outcome State Fault Refusal := .next (s.agree (r % 2 ^ 256) again)

/-- RECHECK (R191): the partner's recomputed, gradient and old-home checksums. -/
def execRecheck (k sum grad old : Nat) (s : State) : Host.Outcome State Fault Refusal :=
  .next (
    s.onMsg 1 { type := 0x12, body := recheckBody k [sum, grad, old] } fun s =>
    match s.plan.job, (s.half (k % 2)).arbit with
    | some j, some a =>
      if a.k ≠ k ∨ a.partner.isSome then s
      else (s.modHalf (k % 2) fun x => { x with arbit := some { a with partner := some [sum, grad, old] } }).decideArb j k
    | _, _ => s)

/-- KAT_DONE (R191): this device's self-check of the slab under arbitration on a half. -/
def execKatDone (h : Nat) (pass : Bool) (s : State) : Host.Outcome State Fault Refusal :=
  .next (match s.plan.job, (s.half h).arbit with
    | some j, some a =>
      if a.ownKat.isSome || a.partner.isNone || a.await.isSome then s
      else
        let s := s.modHalf h fun x => { x with arbit := some { a with ownKat := some pass } }
        (s.toPartner { type := 0x13, body := katBody a.k pass }).decideArb j a.k
    | _, _ => s)

/-- KAT_RESULT (R191): the partner's self-check. -/
def execKatResult (k : Nat) (pass : Bool) (s : State) : Host.Outcome State Fault Refusal :=
  .next (
    s.onMsg 1 { type := 0x13, body := katBody k pass } fun s =>
    match s.plan.job, (s.half (k % 2)).arbit with
    | some j, some a =>
      if a.k ≠ k then s
      else (s.modHalf (k % 2) fun x => { x with arbit := some { a with partnerKat := some pass } }).decideArb j k
    | _, _ => s)

/-! ## SLAB_HOME (R179, R180, R195) -/

/-- Bytes stored over the home ranges of a slab, with the line effects of the writes. -/
def State.putHome (s : State) (c d sweep k : Nat) (bs : List Byte) : State :=
  let before := s.mem
  let (s, _) := (slabHome d sweep k).foldl (fun (x : State × List Byte) r => (x.1.partWrite c r.1 (x.2.take r.2), x.2.drop r.2)) (s, bs)
  (s.met c ((slabHome d sweep k).flatMap fun r => s.partTouch c r.1 r.2 true 0) before).1

/-- An entry of the digest table written (R195). -/
def State.putDigest (s : State) (c d sweep k sum : Nat) : State :=
  let before := s.mem
  let a := Pj.digest d + 16 * k + 8 * sweep
  let s := s.partWrite c a (leBytes 8 sum)
  (s.met c (s.partTouch c a 8 true 0) before).1

/-- The next slab of a half goes home: in order, once agreed (R180). A staged slab that fails its checksum is fetched
from the partner, or stops an unpaired device's job (R186). -/
def State.slabHomed (s : State) (h : Nat) : State :=
  match s.plan.job with
  | none => s
  | some j =>
    let d := j.desc.toNat
    let k := nth 0 j.home h
    match s.stagedOf k with
    | none => s
    | some t =>
      if 2 ≤ h ∨ !t.agreed ∨ t.fetch ∨ (j.phase ≠ .moments ∧ j.phase ≠ .weights) ∨ s.retaining then s
      else
        let bs := s.stagedBytes d j.sweep k
        let (s, _) := s.met j.ctx (touchRun (slotAddr (k % 2) k) (stagedLen d j.sweep k) false 0) s.mem
        if slabSum bs ≠ t.sum then
          if s.paired then (s.setStaged k fun t => { t with fetch := true }).driftFetch ⟨j.ctx, Pj.job d, k, j.sweep⟩
          else s.stopJob .memUncorrectable
        else
          let s := (s.putHome j.ctx d j.sweep k bs).journal j h (stagedCode j.sweep + 2) k t.sum 0 t.unpaired
          let s := (s.putDigest j.ctx d j.sweep k t.sum).bump 0x8034 1 1
          let s := match t.code with
            | some c => s.arbitrated k c
            | none => s
          let s := ((s.modHalf h fun x => { x with staged := x.staged.filter fun t => t.k != k }).stallEnd h).modJob fun j =>
            { j with home := modNth j.home h (· + 2) }
          s.sweepEnd h

/-! ## Jobs begin (R164, R167, R171, R176, R184) -/

/-- Any block scale 0xFF (R176). -/
def State.gradNan (s : State) (c d : Nat) : Bool :=
  (s.partRead c (Pj.grad d + Pj.e d) (Pj.blocks d)).any fun b => b == 0xFF#8

/-- The job goes on from its journal (R184). -/
def State.resumeJob (s : State) (j : Job) (r0 r1 : List Nat) : State :=
  let d := j.desc.toNat
  let s := s.bump 0x8034 0x0B 1
  let done (r : List Nat) : Bool := r.any fun x => Jr.state x == 5
  let j := { j with phase := .moments, next := [0, 1], home := [0, 1] }
  let s := s.modJob fun _ => j
  if done r0 && done r1 then s.startWeights j
  else
    let (s, f0) := s.resumeHalf j 0 r0
    let (s, f1) := s.resumeHalf j 1 r1
    if f0 ++ f1 ≠ [] then s.stopJob .memUncorrectable
    else
      let home (h : Nat) : Nat := nth 0 ((s.plan.job.map (·.home)).getD []) h
      let end0 := !done r0 && halfDone d 0 (home 0)
      let end1 := !done r1 && halfDone d 1 (home 1)
      let s := if end0 then s.sweepEnd 0 else s
      if end1 then s.sweepEnd 1 else s

/-- The job passes R188: R176, then JOB_OPEN on both halves, or its resumption. -/
def State.openJob (s : State) : State :=
  match s.plan.job with
  | none => s
  | some j =>
    let d := j.desc.toNat
    let r0 := s.records j.ctx (Pj.job d) j.step 0
    let r1 := s.records j.ctx (Pj.job d) j.step 1
    if r0 ++ r1 ≠ [] then s.resumeJob j r0 r1
    else
      let (s, st) := s.met j.ctx (s.partTouch j.ctx (Pj.grad d + Pj.e d) (Pj.blocks d) false 0) s.mem
      if st ≠ [] then s.stopJob (firstStatus st)
      else if s.gradNan j.ctx d then
        (((s.journal j 0 0xB 0 0 0 false).journal j 1 0xB 0 0 0 false).bump 0x8034 9 1).endJob []
      else
        let n := Pj.slabs d
        let s := (s.journal j 0 1 0 0 n false).journal j 1 1 0 0 n false
        let s := s.modJob fun j => { j with phase := .moments }
        if n = 1 then s.sweepEnd 1 else s

/-- JOB_START of both devices: equal ones open the job, different ones refuse it (R188). -/
def State.matchStart (s : State) : State :=
  match s.plan.job, s.plan.partnerStart with
  | some j, some p =>
    if j.phase ≠ .awaitPartner then s
    else
      let s := s.modPlan fun x => { x with partnerStart := none }
      if startBytes j = p then s.openJob
      else
        let s := if p.drop 128 = beBytes 4 j.step then s else s.mirrorMismatch 0x4321 (j.ctx + 1)
        (s.bump 0x8034 0x0C 1).endJob [.descriptorInvalid]
  | _, _ => s

/-- An UPDATE job's turn (R171, R184, R188, R198). -/
def State.beginUpdate (s : State) (f : Flight) (e : Env) : State :=
  let d := f.desc.toNat
  let step := s.get 0x4321 (f.ctx + 1)
  let recs := s.records f.ctx (Pj.job d) step 0
  if recs.any fun r => Jr.state r == 9 || Jr.state r == 0xB then s.finishJob f d []
  else if s.plan.drifted.any fun x => x.ctx == f.ctx && x.job == Pj.job d then s.finishJob f d [.memUncorrectable]
  else
    let same (x : Job) : Bool := x.ctx == f.ctx && Pj.job x.desc.toNat == Pj.job d && x.step == step
    let coef := match s.plan.stopped.find? same with
      | some x => x.coef
      | none => s.readCoefs (Pj.coef d)
    let j : Job := { flight := f.id, ctx := f.ctx, desc := f.desc, step := step, coef := coef, phase := .awaitPartner,
                     next := [0, 1], home := [0, 1], found := [], env := e }
    let s := s.modPlan fun p => { p with job := some j, stopped := p.stopped.filter fun x => !same x }
    if s.paired then (s.toPartner { type := 0x10, body := startBytes j }).matchStart else s.openJob

/-- A PACK job runs to its end, or, where the silicon holds it (`e.hang`), stays at the block named there until it is stopped
(R168, R185, log 65). -/
def State.beginPack (s : State) (f : Flight) (e : Env) : State :=
  let d := f.desc.toNat
  match e.hang with
  | [] =>
    let (s, st) := s.packJob f.ctx d (Pj.blocks d)
    s.finishJob f d st
  | b :: _ =>
    let (s, st) := s.packJob f.ctx d (min b (Pj.blocks d))
    let j : Job := { flight := f.id, ctx := f.ctx, desc := f.desc, step := s.get 0x4321 (f.ctx + 1), coef := [], phase := .pack,
                     next := [min b (Pj.blocks d)], home := [], found := st }
    s.modPlan fun p => { p with job := some j }

/-- A job's turn: a frozen one is skipped (R167), a PACK runs, an UPDATE begins. -/
def State.beginJob (s : State) (f : Flight) (e : Env) : State :=
  let d := f.desc.toNat
  if s.plan.frozen.contains f.id then
    let s := s.bump 0x8034 0x0D 1
    let e := Pj.e d
    let buf := kerfBuf d ((s.get 0x4321 (f.ctx + 1) + 1) % 2)
    let before := s.mem
    let s := if Pj.phase d = 0 then
        let s := s.partWrite f.ctx buf (List.replicate (e + Pj.blocks d) 0#8)
        (s.met f.ctx (s.partTouch f.ctx buf (e + Pj.blocks d) true 0) before).1
      else s
    s.finishJob f d []
  else if Pj.phase d = 0 then s.beginPack f e
  else s.beginUpdate f e

/-- A Planer half, or its die, is being reset (R461). -/
def State.planerDown (s : State) : Bool := s.pkg.resets.any fun r => r.domType == 2 || r.domType == 4 || r.domType == 6

/-- The Planer takes jobs in order of arrival while it is free (R164) and both halves are in service. -/
def State.planerGo (s : State) : Nat → State
  | 0 => s
  | n + 1 =>
    if s.plan.job.isSome || !s.inS2 || s.planerDown then s
    else
      match s.plan.queue with
      | [] => s
      | q :: r =>
        let s := s.modPlan fun p => { p with queue := r }
        match s.flight q.1 with
        | none => s.planerGo n
        | some f => (s.beginJob f q.2).planerGo n

def State.planerNext (s : State) : State :=
  let s := s.jobGoesOn
  s.planerGo (s.plan.queue.length + 1)

/-- A Planer job dispatched (R164-R167). -/
def State.planerCommand (s : State) (d : Dispatch) (desc : Desc) : State :=
  s.engineCommand d desc .planer (fun s => s.jobOk d.ctx desc.toNat) fun s f =>
    let cold := s.frozen d.ctx (Pj.layer desc.toNat)
    let s := s.modPlan fun p =>
      { p with queue := p.queue ++ [(f.id, d.env)], frozen := if cold then p.frozen ++ [f.id] else p.frozen }
    s.planerNext

/-- PACK (R168): PHASE 0. -/
def execPack (d : Dispatch) (s : State) : Host.Outcome State Fault Refusal := .next (s.planerCommand d (force d.desc 5 4 0))

/-- MOMENT2_UPDATE (R172): PHASE 1, RULE 1. -/
def execMoment2Update (d : Dispatch) (s : State) : Host.Outcome State Fault Refusal :=
  .next (s.planerCommand d (force (force d.desc 5 4 1) 7 6 1))

/-- ORTHO_UPDATE (R173): PHASE 1, RULE 0. -/
def execOrthoUpdate (d : Dispatch) (s : State) : Host.Outcome State Fault Refusal :=
  .next (s.planerCommand d (force (force d.desc 5 4 1) 7 6 0))

/-- JOB_START (R188); a refused job frees the Planer. -/
def execJobStart (start : List Byte) (s : State) : Host.Outcome State Fault Refusal :=
  .next (
    s.onMsg 1 { type := 0x10, body := start } fun s =>
    if s.paired then (s.modPlan fun p => { p with partnerStart := some start }).matchStart.planerNext else s)

/-- SLAB_STAGED (R179). `err` and `again` are the errors of the silicon in the slab and in its recomputation. A
job that stops frees the Planer. -/
def execSlabStaged (h : Nat) (err again : List (Nat × Nat)) (s : State) : Host.Outcome State Fault Refusal :=
  .next (s.slabStaged h err again).planerNext

/-- SLAB_HOME (R179); the job after the last slab frees the Planer. -/
def execSlabHome (h : Nat) (s : State) : Host.Outcome State Fault Refusal := .next (s.slabHomed h).planerNext

/-- PLANER_RESUME (R185): after backup power, in S2 again, unpaired; the job keeps its single final completion. A PACK runs again
from its first block. -/
def State.planerResume (s : State) : State :=
  match s.plan.job with
  | none => s
  | some j =>
    if !s.inS2 || j.phase != .retained then s
    else if Pj.phase j.desc.toNat = 0 then
      let (s, st) := s.packJob j.ctx j.desc.toNat (Pj.blocks j.desc.toNat)
      s.endJob st
    else
      let d := j.desc.toNat
      let r0 := s.records j.ctx (Pj.job d) j.step 0
      let r1 := s.records j.ctx (Pj.job d) j.step 1
      if r0 ++ r1 = [] then (s.bump 0x8034 0x0B 1).openJob else s.resumeJob j r0 r1

def execPlanerResume (s : State) : Host.Outcome State Fault Refusal := .next s.planerResume.planerNext

/-- The Planer on backup power: the job waits for S2, with what its journal and staging hold; the cores hold nothing of it. -/
def State.planerRetain (s : State) : State :=
  let s := match s.plan.job with
    | some j => s.modFlight j.flight fun f => { f with cores := [], holds := [] }
    | none => s
  ((s.modJob fun j => { j with phase := .retained, env := {} }).clearHalves).modPlan fun p => { p with partnerStart := none }

/-! ## Drift (R196-R198) -/

/-- A slab marked as drifted (R197, R198). A job that waits for its repair stops (R185). -/
def State.markDrifted (s : State) (id : SlabId) : State :=
  let s := match s.plan.job with
    | some j => if s.awaitsRepair j id.k && j.ctx == id.ctx && Pj.job j.desc.toNat == id.job && j.sweep == id.sweep
        then s.stopJob .memUncorrectable else s
    | none => s
  let s := s.modPlan fun p => { p with
    repairing := p.repairing.filter (· != id), drifted := if p.drifted.contains id then p.drifted else p.drifted ++ [id] }
  (s.logAdd { kind := 0x13, ctx := id.ctx, detail := leBytes 4 id.job ++ leBytes 4 id.k ++ leBytes 1 2 }).jobGoesOn

/-- A job that has completed, by context and number. -/
def State.knownJob (s : State) (c job : Nat) : Option Nat :=
  (s.plan.known.find? fun k => k.1 == c && k.2.1 == job).map (·.2.2.toNat)

/-- Is the job between JOB_OPEN and its final record (R196)? -/
def State.jobOpen (s : State) (c job : Nat) : Bool :=
  let all := (s.plan.ring.drop s.plan.void ++ s.plan.halves.flatMap (·.buffer)).filter fun r => Jr.ctx r == c && Jr.job r == job
  (List.range 2).any fun h =>
    match (all.filter fun r => Jr.half r == h).getLast? with
    | none => false
    | some r => Jr.state r != 9 && Jr.state r != 0xB

/-- Does the digest walk check a slab: recorded, of a job that is not open, neither drifted nor under repair (R196, R457)? -/
def State.walkable (s : State) (id : SlabId) : Bool :=
  match s.knownJob id.ctx id.job with
  | none => false
  | some d => s.digestAt id.ctx d id.sweep id.k != 0 && decide (id.k < Pj.slabs d) && !s.jobOpen id.ctx id.job
      && !s.plan.drifted.contains id && !s.plan.repairing.contains id

/-- The digest walk over one recorded slab (R196-R198). -/
def State.walkSlab (s : State) (id : SlabId) : State :=
  match s.knownJob id.ctx id.job with
  | none => s
  | some d =>
    let entry := s.digestAt id.ctx d id.sweep id.k
    if !s.walkable id then s
    else
      let rs := slabHome d id.sweep id.k
      let t := rs.zipIdx.flatMap fun r => s.partTouch id.ctx r.1.1 r.1.2 false r.2
      let bs := s.homeBytes id.ctx d id.sweep id.k
      let ((s, _), _) := s.metFrom id.ctx t s.mem [] 4
      if slabSum bs = entry then s
      else
        let s := s.bump 0x8034 6 1
        if s.paired then s.driftFetch id else s.markDrifted id

/-- DRIFT_FETCH (R197): the home slab is checked and sent; when it fails too, both devices mark the slab. -/
def State.driftFetched (s : State) (id : SlabId) : State :=
  let body := fetchBody id
  s.onMsg 1 { type := 0x15, body := body } fun s =>
  if !s.paired then s
  else
    let d := match s.plan.job with
      | some j => if j.ctx = id.ctx ∧ Pj.job j.desc.toNat = id.job then some j.desc.toNat else s.knownJob id.ctx id.job
      | none => s.knownJob id.ctx id.job
    match d with
    | none => s
    | some d =>
      let bs := s.homeBytes id.ctx d id.sweep id.k
      if slabSum bs = s.digestAt id.ctx d id.sweep id.k then s.toPartner { type := 0x14, body := xferBytes id.k id.sweep bs }
      else
        let asked := s.plan.repairing.contains id
        let s := s.markDrifted id
        if asked then s else s.toPartner { type := 0x15, body := body }

/-- A command after which the job in hand may have ended frees the Planer. -/
def State.planerFreed (s t : State) : State := if s.plan.job.isSome && t.plan.job.isNone then t.planerNext else t

def execDriftFetch (c job k sweep : Nat) (s : State) : Host.Outcome State Fault Refusal :=
  .next (s.planerFreed (s.driftFetched ⟨c, job, k, sweep⟩))

/-- A repair counted and logged, and carried by the job's next final completion (R186, R197). -/
def State.repairDone (s : State) (id : SlabId) : State :=
  let s := s.bump 0x8034 7 1
  let s := s.modPlan fun p => { p with repairing := p.repairing.filter (· != id),
                                       repaired := if p.repaired.contains (id.ctx, id.job) then p.repaired else p.repaired ++ [(id.ctx, id.job)] }
  s.logAdd { kind := 0x13, ctx := id.ctx, detail := leBytes 4 id.job ++ leBytes 4 id.k ++ leBytes 1 1 }

/-- A slab repaired from the partner's bytes (R197). -/
def State.repairSlab (s : State) (id : SlabId) (d : Nat) (bs : List Byte) : State :=
  (s.putHome id.ctx d id.sweep id.k bs).repairDone id

/-- SLAB_XFER (R186, R191, R197): the partner's bytes of a slab, checked before they are used. -/
def State.slabXfer (s : State) (k sweep : Nat) (bs : List Byte) : State :=
  s.onMsg 1 { type := 0x14, body := xferBytes k sweep bs } fun s =>
  let h := k % 2
  let sum := slabSum bs
  let awaited := (s.half h).arbit.bind fun a => if a.k = k then a.await.map fun c => (c, a) else none
  match s.plan.job, awaited, s.stagedOf k with
  | some j, some (code, a), some _ =>
    if sum ≠ a.partnerSum ∨ j.sweep ≠ sweep then s
    else (s.putStage k bs).setStaged k fun t => { t with sum := sum, agreed := true, code := some code }
  | job, _, staged =>
    let fetching := match job, staged with
      | some j, some t => if t.fetch && j.sweep == sweep && t.sum == sum then some (SlabId.mk j.ctx (Pj.job j.desc.toNat) k sweep) else none
      | _, _ => none
    match fetching with
    | some id => ((s.putStage k bs).setStaged k fun t => { t with fetch := false }).repairDone id
    | none =>
      match s.plan.repairing.find? fun r => r.k == k && r.sweep == sweep with
      | none => s
      | some id =>
        let d := match job with
          | some j => if j.ctx = id.ctx ∧ Pj.job j.desc.toNat = id.job then some j.desc.toNat else s.knownJob id.ctx id.job
          | none => s.knownJob id.ctx id.job
        match d with
        | none => s
        | some d =>
          if sum ≠ s.digestAt id.ctx d sweep k then s
          else
            let s := s.repairSlab id d bs
            match s.plan.job, (s.half h).arbit with
            | some j, some a => if a.k = k && a.second && j.ctx == id.ctx && j.sweep == sweep then
                (s.restage j k).tryAgree k (s.slabBytes j j.sweep k) else s.jobGoesOn
            | _, _ => s.jobGoesOn

def execSlabXfer (k sweep : Nat) (bs : List Byte) (s : State) : Host.Outcome State Fault Refusal :=
  .next (s.planerFreed (s.slabXfer k sweep bs))

/-! ## The pair ends (R194) -/

/-- One slab that waits for the partner: agreed on its own checksum, or, under arbitration, only when the recomputation
matched (R194); one awaited from the partner stops the job (R186). -/
def State.unpairSlab (s : State) (t : Staged) : State :=
  match s.plan.job with
  | none => s
  | some j =>
    if j.phase = .halted then s
    else if t.fetch then s.stopJob .memUncorrectable
    else if t.agreed then s
    else
      match (s.half (t.k % 2)).arbit with
      | some a =>
        if a.k ≠ t.k then s.agreeSlab j t.k t.sum true
        else if nth 0 a.own 0 = t.sum then
          (s.modHalf (t.k % 2) fun x => { x with arbit := none }).agreeSlab j t.k t.sum true
        else s.arbitrated t.k 8
      | none => s.agreeSlab j t.k t.sum true

/-- The device goes on unpaired. -/
def State.planerUnpair (s : State) : State :=
  let waits := s.plan.halves.flatMap (·.staged)
  let s := waits.foldl State.unpairSlab s
  let s := s.plan.repairing.foldl State.markDrifted s
  let s := s.modPlan fun p => { p with partnerStart := none }
  match s.plan.job with
  | some j => if j.phase = .awaitPartner then s.openJob.planerNext else s.planerNext
  | none => s.planerNext

end Sys2Proof.Machine
end

