-- ==== Sys2Proof/Machine/Codec.lean ====
section
/-! DEFINITION. The codec: MOVE in the modes SQUEEZE and EXPAND, its engines, and the table commands (R201-R230). -/

namespace Sys2Proof.Machine

/-! ## Bindings (R217, R221, R222) -/

/-- The ACTIVE slot of a generation (R217). -/
def State.activeSlot (s : State) (gen : Nat) : Option Nat :=
  s.codec.slots.findIdx? fun t => t.phase == .active && t.gen == gen

/-- Is a table command of the context still without its final completion (R222)? -/
def State.tableBusy (s : State) (c : Nat) : Bool := s.sched.flights.any fun f => f.engine == .codec && f.ctx == c

/-! ## One stream on one core (R202, R213, R215) -/

/-- The table a flight bound: generation and image, with the slot it bound even after a newer LOAD (R221). -/
def State.boundTable (s : State) (id : Nat) : Option (Nat × List Byte) :=
  (s.codec.refs.find? fun r => r.1 == id).map fun r =>
    let t := nth {} s.codec.slots r.2
    (t.gen, t.image)

/-- One granted core of a SQUEEZE or EXPAND runs its stream: the state and the statuses it adds. -/
def State.streamOnCore (s : State) (f : Flight) (core pos : Nat) : State × List Status :=
  let d := f.desc.toNat
  let v := s.view f.ctx core pos
  let r : Run := ⟨s.mem, s.ctr⟩
  let bound := s.boundTable f.id
  let out := if Cmd.mode d = 2 then runSqueeze v r d ((bound.map (·.2)).getD []) else some (runExpand v r d bound)
  match out with
  | none => (s.bump 0x8032 0x03 1, [.descriptorInvalid])
  | some o =>
    let pcs := smSet 0 s.cores.pcs (slotKey core v.slot) (smGet 0 s.cores.pcs (slotKey core v.slot) + 1)
    let s1 : State := { s with mem := o.run.mem, ctr := o.run.ctr, cores := { s.cores with pcs := pcs } }
    let (s1, st) := s1.met f.ctx o.touches s.mem
    match o.fault with
    | none => (s1, st)
    | some (reason, b) =>
      let s1 := s1.set 0x4203 1 (reason + f.ctx * 2 ^ 8 + b % 2 ^ 32 * 2 ^ 32)
      let s1 := if s1.codec.faulted.contains f.id then s1
        else { (s1.bump 0x8035 0x09 1) with codec := { s1.codec with faulted := s1.codec.faulted ++ [f.id] } }
      (s1, st ++ [.memUncorrectable])

/-! ## Engines (R201, R226) -/

/-- MOVE engines that a command waits for: 12 squeezers, 28 expanders. -/
def moveEngines (sq : Bool) : Nat := if sq then 12 else 28

def State.engineQueue (s : State) (sq : Bool) : List EngineReq := if sq then s.codec.waitSq else s.codec.waitEx

def State.setEngineQueue (s : State) (sq : Bool) (l : List EngineReq) : State :=
  { s with codec := if sq then { s.codec with waitSq := l } else { s.codec with waitEx := l } }

/-- Is a flight a SQUEEZE (true) or EXPAND (false)? -/
def Flight.isStream (f : Flight) (sq : Bool) : Bool :=
  f.engine == .cores && Cmd.opcode f.desc.toNat == 6 && Cmd.mode f.desc.toNat == if sq then 2 else 3

/-- Engines held by cores that were granted one and do not finish. -/
def State.enginesHeld (s : State) (sq : Bool) : Nat :=
  ((s.sched.flights.filter fun f => f.isStream sq).map fun f =>
    (f.cores.filter fun k => !(s.engineQueue sq).any fun q => q.flight == f.id && q.core == k).length).foldl (· + ·) 0

/-- A free engine: a freed one goes to a waiting request first, so requests wait only while every engine is held. -/
def State.enginesFree (s : State) (sq : Bool) : Nat :=
  if s.engineQueue sq = [] then moveEngines sq - s.enginesHeld sq else 0

/-- A granted request runs to its end; a flight whose last core has ended completes. -/
def State.runGranted (s : State) (q : EngineReq) : State :=
  match s.flight q.flight with
  | none => s
  | some f =>
    let (s, st) := s.streamOnCore f q.core q.pos
    let s := s.modFlight f.id fun f => { f with cores := f.cores.filter (· != q.core), found := f.found ++ st }
    match s.flight f.id with
    | some f => if f.cores = [] then s.finish f [] else s
    | none => s

/-- Ascending insertion of a request by core number. -/
def insertReq (q : EngineReq) : List EngineReq → List EngineReq
  | [] => [q]
  | x :: r => if q.core < x.core then q :: x :: r else x :: insertReq q r

/-- SQUEEZE and EXPAND (R202, R213-R216, R221, R226): bound at dispatch; each core of the set declares its walks and takes an
engine, lowest core first, or waits for one. -/
def State.streamCommand (s : State) (d : Dispatch) (desc : Desc) : State :=
  let c := d.ctx
  let n := desc.toNat
  let slotOf (s : State) : Option Nat := if binds n then s.activeSlot (Mv.gen n) else none
  if s.tableBusy c then s
  else s.dispatchCores d desc (fun s => codecMoveOk n (s.ctx c).tensors && (!binds n || (slotOf s).isSome)) fun s x cores =>
    let all := cores.zipIdx
    let s := s.applyEnv d.env cores false (s.contestOk c cores 6 (all.flatMap fun p => s.reach c n p.1 p.2))
    let id := s.sched.nextId
    let sq := Cmd.mode n == 2
    let ill := cores.filter fun k => d.env.illegal.contains k
    let st := if ill = [] then [] else [Status.illegalInstruction]
    let live := all.filter fun p => !ill.contains p.1
    let reqs := live.foldl (fun l p => insertReq ⟨id, p.1, p.2⟩ l) []
    let free := s.enginesFree sq
    let now := reqs.take free
    let wait := reqs.drop free
    let s := live.foldl (fun s p => s.declareWalks c id (s.reach c n p.1 p.2)) s
    let s := s.prefetchDue c d.env.prefetched
    let (s, holds) := (now.filter fun q => d.env.hang.contains q.core).foldl (fun (y : State × List CoreHold) q =>
      let (s, h) := y.1.hang d.env c n q.core q.pos
      (s, y.2 ++ [h])) (s, [])
    let f := Flight.mk id .cores .normal c x.addrs x.hdr x.desc x.list (live.map (·.1)) st false s.time holds
    let s := s.addFlight f
    let s := { s with codec := { s.codec with refs := s.codec.refs ++ ((slotOf s).map fun k => (id, k)).toList } }
    let s := (s.setEngineQueue sq (s.engineQueue sq ++ wait)).bump 0x8035 0x0D wait.length
    if live = [] then s.finish f []
    else (now.filter fun q => !d.env.hang.contains q.core).foldl State.runGranted s

/-- SQUEEZE (R213): opcode 6, MODE 2. -/
def execSqueeze (d : Dispatch) (s : State) : Host.Outcome State Fault Refusal :=
  .next (s.streamCommand d (force (force d.desc 7 0 6) 99 96 2))

/-- EXPAND (R215): opcode 6, MODE 3. -/
def execExpand (d : Dispatch) (s : State) : Host.Outcome State Fault Refusal :=
  .next (s.streamCommand d (force (force d.desc 7 0 6) 99 96 3))

/-- ENGINE_GRANT (R226): a squeezer (`sq`) or expander engine becomes free and goes to the oldest waiting request. -/
def execEngineGrant (sq : Bool) (s : State) : Host.Outcome State Fault Refusal :=
  .next (match s.engineQueue sq with
    | [] => s
    | q :: rest => (s.setEngineQueue sq rest).runGranted q)

/-! ## Table commands (R217-R223) -/

namespace Tab
/-! Fields of R218. -/
def op (d : Nat) : Nat := fld d 1 0
def gen (d : Nat) : Nat := fld d 5 2
def space (d : Nat) : Nat := fld d 7 6
def addr (d : Nat) : Nat := fld d 47 8
end Tab

/-- The lowest-numbered core in which a context holds a slot: the slice and the pool that a table command's SPACE means
(log 22). -/
def State.homeCore (s : State) (c : Nat) : Nat :=
  (((List.range 80).map (· * 1000)).find? fun k => holdsSlot (Rec.footprint (s.ctx c).record) k).getD 0

/-- The bytes of a table image as the LOAD reads them, and their accesses. -/
def State.tableImage (s : State) (f : Flight) : List Byte × List Touch :=
  let v := s.view f.ctx (s.homeCore f.ctx) 0
  let a := (List.range 144).map fun i => flat v (Tab.space f.desc.toNat) (Tab.addr f.desc.toNat + i)
  (a.map fun x => readByte s.mem s.ueNow x, a.map fun x => Touch.mk x false 0)

def State.setSlots (s : State) (l : List TableSlot) : State := { s with codec := { s.codec with slots := l } }

/-- A LOAD that has taken slot `k` reads its image, checks it and makes it ACTIVE, or frees the slot again (R219). -/
def State.loadInto (s : State) (f : Flight) (k : Nat) : State :=
  let (img, touches) := s.tableImage f
  let g := Tab.gen f.desc.toNat
  let (s, st) := s.met f.ctx touches s.mem
  if !tableOk img then (s.setSlots (modNth s.codec.slots k fun _ => {})).finish f (.descriptorInvalid :: st)
  else
    let old := s.codec.slots.map fun t => if t.phase == .active && t.gen == g then { t with phase := .retiring } else t
    (s.setSlots (modNth old k fun _ => ⟨.active, g, img⟩)).finish f st

/-- A table command's reserved bits and OP (R218). -/
def tableCmdOk (d : Nat) : Bool := fld d 511 48 == 0 && Tab.space d != 3 && (Tab.op d == 1 || Tab.op d == 2)

/-- The lowest-numbered FREE slot. -/
def State.freeSlot (s : State) : Option Nat := s.codec.slots.findIdx? fun t => t.phase == .free

/-- LOAD of a table (R219): at once into a FREE slot, which a LOAD that already waits comes before, else one interim TABLE_WAIT and
a wait. -/
def State.tableLoad (s : State) (f : Flight) : State :=
  match (if s.codec.waiting = [] then s.freeSlot else none) with
  | some k => (s.setSlots (modNth s.codec.slots k fun _ => ⟨.loading, Tab.gen f.desc.toNat, []⟩)).loadInto f k
  | none =>
    let s := f.addrs.foldl (fun s a => s.sendComp a .tableWait f.ctx 0 []) s
    { (s.bump 0x8035 0x08 1) with codec := { s.codec with waiting := s.codec.waiting ++ [f.id] } }

/-- RETIRE of a generation (R220). -/
def State.tableRetire (s : State) (f : Flight) : State :=
  let g := Tab.gen f.desc.toNat
  (s.setSlots (s.codec.slots.map fun t =>
    if t.phase == .active && t.gen == g then { t with phase := .retiring } else t)).finish f []

/-- Both table commands; one waits behind a table command of its own context (R222). -/
def State.tableCommand (s : State) (d : Dispatch) (desc : Desc) (run : State → Flight → State) : State :=
  if s.tableBusy d.ctx then s
  else s.engineCommand d desc .codec (fun _ => tableCmdOk desc.toNat) run

/-- TABLE_LOAD (R219): OP 1. -/
def execTableLoad (d : Dispatch) (s : State) : Host.Outcome State Fault Refusal :=
  .next (s.tableCommand d (force d.desc 1 0 1) State.tableLoad)

/-- TABLE_RETIRE (R220): OP 2. -/
def execTableRetire (d : Dispatch) (s : State) : Host.Outcome State Fault Refusal :=
  .next (s.tableCommand d (force d.desc 1 0 2) State.tableRetire)

/-- The waiting LOAD that takes a slot (R223): R91 among the waiting contexts. -/
def State.slotWinner (s : State) : Option Flight :=
  let w := s.codec.waiting.filterMap s.flight
  let best := arbWinner s.codec.ptr (w.map fun f => (f.ctx, Rec.cls (s.ctx f.ctx).record))
  w.find? fun f => f.ctx == best

/-- TABLE_LOAD_SLOT_TAKEN (R219, R223): a FREE slot goes to a waiting LOAD, which then loads. -/
def State.slotTaken (s : State) : State :=
  match s.freeSlot, s.slotWinner with
  | some k, some f =>
    let several := decide (2 ≤ (s.codec.waiting.filterMap s.flight).length)
    let ptr := if several then (f.ctx + 1) % 64 else s.codec.ptr
    let s := s.bump 0x8035 0x0C (b2n several)
    let s := { s with codec := { s.codec with waiting := s.codec.waiting.filter (· != f.id), ptr := ptr } }
    (s.setSlots (modNth s.codec.slots k fun _ => ⟨.loading, Tab.gen f.desc.toNat, []⟩)).loadInto f k
  | _, _ => s

def execTableLoadSlotTaken (s : State) : Host.Outcome State Fault Refusal := .next s.slotTaken

end Sys2Proof.Machine
end

