-- ==== Sys2Proof/Machine/Ethernet.lean ====
section
/-! DEFINITION. The host port below Raorn: frames, neighbours, priority flow control, link state (R331-R337). -/

namespace Sys2Proof.Machine

/-! ## Addresses (R334, R336). MAC and IPv6 addresses are numbers whose low byte is the first octet. -/

def State.mac (s : State) : Nat := s.get 0x3002 1

/-- The link-local address of RFC 4291 for a MAC address. -/
def linkLocal (mac : Nat) : Nat :=
  let b (i : Nat) : Nat := fld mac (8 * i + 7) (8 * i)
  let l := [0xFE, 0x80, 0, 0, 0, 0, 0, 0, b 0 ^^^ 2, b 1, b 2, 0xFF, 0xFE, b 3, b 4, b 5]
  leNat (l.map fun x => BitVec.ofNat 8 x)

/-- The device's IPv6 address in force. -/
def State.ipv6 (s : State) : Nat := if s.net.addrInForce = 0 then linkLocal s.mac else s.net.addrInForce

/-- Octets 13-15 of an address, which its solicited-node multicast address repeats. -/
def lowOctets (a : Nat) : List Byte := (leBytes 16 a).drop 13

def solicitedNode (a : Nat) : List Byte :=
  leBytes 11 (0xFF + 0x02 * 2 ^ 8) ++ [0x01#8, 0xFF#8] ++ lowOctets a

/-! ## Frames (R334) -/

/-- The Internet checksum's sum of big-endian 16-bit words. -/
def sum16 : List Byte → Nat
  | a :: b :: r => a.toNat * 256 + b.toNat + sum16 r
  | [a] => a.toNat * 256
  | [] => 0

def fold16 (n : Nat) : Nat := let m := n % 65536 + n / 65536; m % 65536 + m / 65536

/-- The checksum of an upper-layer packet under the IPv6 pseudo-header. -/
def checksum6 (src dst : List Byte) (next : Nat) (pl : List Byte) : Nat :=
  65535 - fold16 (sum16 (src ++ dst ++ beBytes 4 pl.length ++ beBytes 4 next ++ pl))

/-- An IPv6 packet (R334): traffic class, next header, hop limit, addresses, payload. -/
def ipPacket (tc next hops : Nat) (src dst pl : List Byte) : List Byte :=
  beBytes 4 (6 * 2 ^ 28 + tc * 2 ^ 20) ++ beBytes 2 pl.length ++ beBytes 1 next ++ beBytes 1 hops ++ src ++ dst ++ pl

def State.vlanTag (s : State) (pcp : Nat) : List Byte := beBytes 2 0x8100 ++ beBytes 2 (pcp % 8 * 2 ^ 13 + s.get 0x3003 1)

/-- A frame put on the fibre: destination, source, the 802.1Q tag of its priority where it has one, EtherType and body, the FCS at its
end. A paused priority begins no frame (R337), and a port whose link is down none: the frame waits (log 72). -/
def State.frame (s : State) (dst : List Byte) (pcp : Option Nat) (ety : Nat) (body : List Byte) : State :=
  let tag := (pcp.map s.vlanTag).getD []
  let bs := padTo (max 60 (14 + tag.length + body.length)) (dst ++ leBytes 6 s.mac ++ tag ++ beBytes 2 ety ++ body)
  let bs := bs ++ leBytes 4 (crc32 bs)
  match pcp with
  | some p => if s.net.linkUp && smGet 0 s.net.paused (p % 8) == 0 then s.send .frame bs
    else { s with net := { s.net with held := s.net.held ++ [(p % 8, bs)] } }
  | none => s.send .frame bs

/-- The frames that nothing holds back any more go out, in their order (R337). -/
def State.unpause (s : State) : State :=
  let free (h : Nat × List Byte) : Bool := s.net.linkUp && smGet 0 s.net.paused h.1 == 0
  let out := s.net.held.filter free
  out.foldl (fun s h => s.send .frame h.2) { s with net := { s.net with held := s.net.held.filter fun h => !free h } }

/-- An ICMPv6 message with its checksum. -/
def icmp (src dst : List Byte) (type : Nat) (rest : List Byte) : List Byte :=
  let m := leBytes 1 type ++ [0#8, 0#8, 0#8] ++ rest
  leBytes 1 type ++ [0#8] ++ beBytes 2 (checksum6 src dst 58 m) ++ rest

/-- A Neighbor Solicitation for an address (R335), as RFC 4861 lays it out. -/
def State.solicit (s : State) (a : Nat) : State :=
  let src := leBytes 16 s.ipv6
  let dst := solicitedNode a
  let m := icmp src dst 135 (leBytes 4 0 ++ leBytes 16 a ++ [1#8, 1#8] ++ leBytes 6 s.mac)
  let s := { s with net := { s.net with soliciting := if s.net.soliciting.contains a then s.net.soliciting else s.net.soliciting ++ [a] } }
  s.frame ([0x33#8, 0x33#8, 0xFF#8] ++ lowOctets a) (some 0) 0x86DD (ipPacket 0 58 255 src dst m)

/-- An IPv6 packet sent to a host: at once where its MAC address is known, else after it is resolved. -/
def State.sendIp (s : State) (a pcp : Nat) (pkt : List Byte) : State :=
  match s.net.neigh.find? fun n => n.1 == a with
  | some n => s.frame (leBytes 6 n.2) (some pcp) 0x86DD pkt
  | none =>
    let s := { s with net := { s.net with waiting := s.net.waiting ++ [(a, pcp, pkt)] } }
    if s.net.soliciting.contains a then s else s.solicit a

/-- A neighbour resolved: the packets that waited for it go out. -/
def State.resolved (s : State) (a mac : Nat) : State :=
  let out := s.net.waiting.filter fun w => w.1 == a
  let net := { s.net with neigh := (s.net.neigh.filter fun n => n.1 != a) ++ [(a, mac)],
                          soliciting := s.net.soliciting.filter (· != a),
                          waiting := s.net.waiting.filter fun w => w.1 != a }
  out.foldl (fun s w => s.sendIp w.1 w.2.1 w.2.2) { s with net := net }

/-- Can frames be received and sent: is the link up? -/
def State.linked (s : State) : Bool := s.net.linkUp

/-! ## Received frames (R335, R337) -/

/-- The all-nodes multicast address, to which an advertisement without a solicitor goes. -/
def allNodes : List Byte := leBytes 16 (0xFF + 0x02 * 2 ^ 8 + 2 ^ 120)

/-- Does the device take packets to this address (R335): its own, or a multicast address of neighbour discovery? -/
def State.takesDst (s : State) (dst : List Byte) : Bool :=
  dst == leBytes 16 s.ipv6 || dst == solicitedNode s.ipv6 || dst == allNodes

/-- The fields of a received frame: whether it is tagged, the VID, the EtherType, and what stands between it and the FCS. -/
def frameTagged (f : List Byte) : Bool := beNat (slice f 12 2) == 0x8100
def frameVid (f : List Byte) : Nat := beNat (slice f 14 2) % 4096
def frameType (f : List Byte) : Nat := beNat (slice f (if frameTagged f then 16 else 12) 2)
def frameBody (f : List Byte) : List Byte := (f.take (f.length - 4)).drop (if frameTagged f then 18 else 14)

def frameFcsOk (f : List Byte) : Bool := f.drop (f.length - 4) == leBytes 4 (crc32 (f.take (f.length - 4)))

/-- The next-header values of IPv6 extension headers. -/
def extHeaders : List Nat := [0, 43, 44, 50, 51, 60, 135, 139, 140]

/-- Does a filter of R335 discard an IPv6 packet? -/
def State.ipFiltered (s : State) (b : List Byte) : Bool :=
  let next := beNat (slice b 6 1)
  let src := slice b 8 16
  let dst := slice b 24 16
  let pl := slice b 40 (beNat (slice b 4 2))
  let sum := sum16 (src ++ dst ++ beBytes 4 pl.length ++ beBytes 4 17 ++ pl)
  extHeaders.contains next || !s.takesDst dst
    || (next == 17 && (beNat (slice pl 2 2) != s.net.portInForce || beNat (slice pl 6 2) == 0 || fold16 sum != 65535))
    || (next == 58 && !([128, 135, 136].contains (beNat (slice pl 0 1))))

/-- Does a filter of R335 or R337 discard a frame whose FCS holds: by its EtherType, its VID, its packet, or as a PAUSE frame? -/
def State.filtered (s : State) (f : List Byte) : Bool :=
  let ety := frameType f
  (ety != 0x86DD && ety != 0x8808) || (frameTagged f && frameVid f != s.get 0x3003 1)
    || (ety == 0x86DD && s.ipFiltered (frameBody f)) || (ety == 0x8808 && beNat (slice (frameBody f) 0 2) == 1)

/-- FILTERED_FRAME: a frame with a failing FCS, or one that a filter of R335 or R337 discards. -/
def execFilteredFrame (f : List Byte) (s : State) : Host.Outcome State Fault Refusal :=
  .next (if !s.linked then s
    else if !frameFcsOk f then s.bump 0x8039 2 1
    else if s.filtered f then s.bump 0x8039 3 1
    else s)

/-- NEIGHBOR_SOLICITATION: answered by a Neighbor Advertisement; its source is learned. -/
def State.solicited (s : State) (src mac target : Nat) : State :=
  if !s.linked || target != s.ipv6 then s
  else
    let s := if src != 0 && mac != 0 then s.resolved src mac else s
    let me := leBytes 16 s.ipv6
    let flags := if src = 0 then 0x20 else 0x60
    let rest := beBytes 1 flags ++ leBytes 3 0 ++ leBytes 16 target ++ [2#8, 1#8] ++ leBytes 6 s.mac
    if src = 0 then
      s.frame ([0x33#8, 0x33#8] ++ leBytes 4 (2 ^ 24)) (some 0) 0x86DD (ipPacket 0 58 255 me allNodes (icmp me allNodes 136 rest))
    else
      let dst := leBytes 16 src
      s.sendIp src 0 (ipPacket 0 58 255 me dst (icmp me dst 136 rest))

def execNeighborSolicitation (src mac target : Nat) (s : State) : Host.Outcome State Fault Refusal :=
  .next (s.solicited src mac target)

/-- NEIGHBOR_ADVERTISEMENT: completes a resolution, or replaces a known address when its override flag is set. -/
def execNeighborAdvertisement (target mac : Nat) (solicited override : Bool) (s : State) : Host.Outcome State Fault Refusal :=
  .next (
    let known := s.net.neigh.any fun n => n.1 == target
    let asked := s.net.soliciting.contains target
    if s.linked && mac != 0 && (asked || (known && (override || solicited && s.net.neigh.contains (target, mac)))) then
      s.resolved target mac
    else s)

/-- ECHO_REQUEST: answered as RFC 4443 defines; one for an address that the device does not take is filtered (R335). -/
def execEchoRequest (src dst ident seq : Nat) (data : List Byte) (s : State) : Host.Outcome State Fault Refusal :=
  .next (if !s.linked then s
    else if !s.takesDst (leBytes 16 dst) then s.bump 0x8039 3 1
    else
      let me := leBytes 16 s.ipv6
      let peer := leBytes 16 src
      s.sendIp src 0 (ipPacket 0 58 64 me peer (icmp me peer 129 (beBytes 2 ident ++ beBytes 2 seq ++ data))))

/-! ## Priority flow control (R337) -/

/-- Bytes of the shared receive buffer that are free (R346). -/
def State.freeShared (s : State) : Nat :=
  let held := s.net.streams.map fun e =>
    (e.2.rxBytes.length + (e.2.rxHeld.map fun h => h.2.length).foldl (· + ·) 0) - 4096
  64 * mib - held.foldl (· + ·) 0

/-- A PFC frame for the enabled priorities with one time value, while the link is up. -/
def State.sendPfc (s : State) (time : Nat) : State :=
  if !s.net.linkUp then s else
  let en := s.get 0x3005 1
  let times := (List.range 8).flatMap fun p => beBytes 2 (if bit en p then time else 0)
  (s.frame [0x01#8, 0x80#8, 0xC2#8, 0x00#8, 0x00#8, 0x01#8] none 0x8808 (beBytes 2 0x0101 ++ beBytes 2 en ++ times)).bump 0x8039 5 1

/-- XOFF when the free buffer falls below PFC_XOFF_KIB, XON when it rises above PFC_XON_KIB. -/
def State.pfcCheck (s : State) : State :=
  let free := s.freeShared
  if !s.net.xoff && decide (free < s.get 0x3005 2 * 1024) && s.get 0x3005 1 != 0 then
    ({ s with net := { s.net with xoff := true } }).sendPfc 0xFFFF
  else if s.net.xoff && decide (s.get 0x3005 3 * 1024 < free) then
    ({ s with net := { s.net with xoff := false } }).sendPfc 0
  else s

/-- The bytes of a message leave those that wait on a stream, behind `skip` others: the buffer they held is free again (R337, R346). -/
def State.consumeAt (s : State) (n skip : Nat) (bs : List Byte) : State :=
  let x := s.strm n
  if (x.rxBytes.drop skip).take bs.length == bs then
    (s.setStrm n { x with rxBytes := x.rxBytes.take skip ++ x.rxBytes.drop (skip + bs.length) }).pfcCheck
  else s

/-- A message taken from a stream. -/
def State.consume (s : State) (n : Nat) (bs : List Byte) : State := s.consumeAt n 0 bs

/-- PFC: the priorities that the frame names and PFC_ENABLE enables pause for its times, or are released. -/
def execPfc (mask : Nat) (times : List Nat) (s : State) : Host.Outcome State Fault Refusal :=
  .next (if !s.linked then s
    else
      let en := s.get 0x3005 1
      let ps := (List.range 8).filter fun p => bit mask p && bit en p
      let paused := ps.foldl (fun l p => smSet 0 l p (nth 0 times p % 65536)) s.net.paused
      ({ s with net := { s.net with paused := paused } }).unpause.bump 0x8039 4 1)

/-- PFC_PAUSE_END: a pause time has run out. -/
def execPfcPauseEnd (p : Nat) (s : State) : Host.Outcome State Fault Refusal :=
  .next ({ s with net := { s.net with paused := smSet 0 s.net.paused p 0 } } : State).unpause

/-- PFC_REFRESH: XOFF again every 32,768 quanta while the buffer stays low. -/
def execPfcRefresh (s : State) : Host.Outcome State Fault Refusal :=
  .next (if s.net.xoff && s.net.linkUp then s.sendPfc 0xFFFF else s)

/-! ## The link (R331-R333) -/

/-- The link goes down; PORT_MODE reads `mode`. -/
def State.linkLost (s : State) (mode : Nat) : State :=
  let s := if s.net.linkUp then s.bump 0x8039 1 1 else s
  ({ s with net := { s.net with linkUp := false, paused := [] } }).set 0x3001 1 mode

/-- A change of mode: the port is brought down and trains (R332). -/
def State.trainHost (s : State) (full : Bool) : State :=
  let s := s.linkLost 3
  { s with net := { s.net with wantFull := full } }

/-- A change to SINGLE, where the port is not in it or training for it already (R332). -/
def State.trainSingle (s : State) : State := if s.net.wantFull then s.trainHost false else s

/-- LINK_DOWN (R333). -/
def execLinkDown (s : State) : Host.Outcome State Fault Refusal :=
  .next (if s.net.linkUp then s.linkLost 0 else s)

/-- LINK_UP (R332, R333): in the mode that was trained; the light of the HOST engine must be there. -/
def execLinkUp (s : State) : Host.Outcome State Fault Refusal :=
  .next (if s.net.linkUp || s.pkg.resetHeld || !s.pkg.booted || bit (s.get 0x2203 7) 0 || s.dieState 13 == 5 || s.dieState 13 == 4 then s
    else
      let full := s.net.wantFull && s.inS2
      let s := ({ s with net := { s.net with linkUp := true } } : State).unpause.set 0x3001 1 (if full then 2 else 1)
      let s := if full then s.set 0x3001 2 0 else s
      s.set 0x3001 3 0)

/-- PORT_FALLBACK (R332): FULL did not come up within 500 ms. -/
def execPortFallback (s : State) : Host.Outcome State Fault Refusal :=
  .next (if s.inS2 && !s.net.linkUp && s.net.wantFull then
      ((s.trainHost false).set 0x3001 2 1).set 0x3001 3 0
    else s)

end Sys2Proof.Machine
end

