-- ==== Sys2Proof/Machine/Media.lean ====
section
/-! DEFINITION. Decoded media into slot bytes: raw frames, geometry, pyramid, colour, normalisation, slot layout and
ROI maps (R283-R293). -/

namespace Sys2Proof.Machine

open Sys2Proof.Config (Media)

/-! ## INTAKE_CONFIG (R268) and INTAKE_NORM (R269) -/

namespace Ic
def kind (c : Nat) : Nat := fld c 3 0
def outFormat (c : Nat) : Nat := fld c 7 4
def context (c : Nat) : Nat := fld c 13 8
def raorn (c : Nat) : Nat := fld c 29 16
def colour (c : Nat) : Nat := fld c 34 32
def range (c : Nat) : Nat := fld c 36 35
def normEn (c : Nat) : Bool := bit c 37
def pyrField (c : Nat) : Nat := fld c 40 38
/-- PYR_LEVELS, 0 meaning 1. -/
def levels (c : Nat) : Nat := if pyrField c = 0 then 1 else pyrField c
def roiMode (c : Nat) : Nat := fld c 42 41
def scale (c : Nat) : Bool := bit c 43
def channels (c : Nat) : Nat := fld c 47 44
def dict (c : Nat) : Nat := fld c 49 48
def roiAddr (c : Nat) : Nat := fld c 319 280
def rate (c : Nat) : Nat := fld c 351 320
def padToken (c : Nat) : Nat := fld c 383 352
def slotLen (c : Nat) : Nat := fld c 415 384
def outH (c : Nat) : Nat := fld c 431 416
def outW (c : Nat) : Nat := fld c 447 432
def pixelBudget (c : Nat) : Nat := fld c 479 448
def timeBudget (c : Nat) : Nat := fld c 511 480
def mean (n ch : Nat) : Nat := fld n (64 * ch + 31) (64 * ch)
def scaleC (n ch : Nat) : Nat := fld n (64 * ch + 63) (64 * ch + 32)
def fmt (c : Nat) : Fmt := (Fmt.ofCode (outFormat c)).getD .fp32
end Ic

/-! ## Slot layout (R291) -/

def levelW (c k : Nat) : Nat := (List.range k).foldl (fun w _ => cdiv w 2) (Ic.outW c)
def levelH (c k : Nat) : Nat := (List.range k).foldl (fun h _ => cdiv h 2) (Ic.outH c)

/-- Bytes of one part of `rows` by CHANNELS values, and of its sidecar. -/
def partBytes (c rows : Nat) : Nat :=
  roundUp (rows * Ic.channels c * (Ic.fmt c).bytes) 64 +
    (if Ic.fmt c = .bf16 then roundUp (rows + Ic.channels c) 64 else 0)

/-- The slot size and stride (R291). -/
def slotSize (c kind : Nat) : Nat :=
  match kind with
  | 1 => roundUp (4 * Ic.slotLen c) 64
  | 3 => partBytes c (Ic.slotLen c)
  | _ => ((List.range (Ic.levels c)).map fun k => partBytes c (levelW c k * levelH c k)).foldl (· + ·) 0

/-- The values of a part as bytes, row by row, with the sidecar of a BF16 format (R60, R291). -/
def partOf (c : Nat) (rows : List (List Nat)) : List Byte :=
  let f := Ic.fmt c
  let bs := rows.flatMap fun r => r.flatMap fun v => leBytes f.bytes v
  let body := padTo (roundUp bs.length 64) bs
  if f = .bf16 then
    body ++ sidecarBytes (rows.map fun r => listMax 0 (r.map bf16Exp))
      ((List.range (Ic.channels c)).map fun j => listMax 0 (rows.map fun r => bf16Exp (nth 0 r j)))
  else body

/-! ## Normalisation (R290) -/

/-- An FP32 value of channel `ch` in OUT_FORMAT. -/
def normOut (c norm ch x : Nat) : Nat :=
  let y := if Ic.normEn c then f32Mul (f32Sub x (Ic.mean norm ch)) (Ic.scaleC norm ch) else x
  (outVal (Ic.fmt c) .rne (f32 y)).bits

/-- The normalised zero value of channel `ch` (R290). -/
def normZero (c norm ch : Nat) : Nat := if Ic.normEn c then normOut c norm ch 0 else 0

def zeroRow (c norm : Nat) : List Nat := (List.range (Ic.channels c)).map (normZero c norm)

/-! ## Supported features (R283) -/

open Sys2Proof.Config (Features) in
/-- Does the Supported column of R283 cover the features of a container's sample? -/
def supported (container : Nat) (f : Features) : Bool :=
  !f.other && match container with
  | 0x01 => decide (f.process ≤ 1) && !f.arithmetic && f.bits == 8
    && (f.components == 1 || (f.components == 3 && decide (f.shifts.1 ≤ 1) && decide (f.shifts.2 ≤ 1)))
  | 0x02 => decide (1 ≤ f.bits) && decide (f.bits ≤ 16)
  | 0x10 => (f.process == 1 && (f.bits == 16 || f.bits == 24)) || (f.process == 3 && f.bits == 32)
  | 0x11 => decide (8 ≤ f.bits) && decide (f.bits ≤ 24)
  | 0x12 => decide (f.process ≤ 1)
  | 0x30 => f.profile == 0 && (f.bits == 8 || f.bits == 10) && decide (f.chroma ≤ 1) && decide (f.level ≤ 60)
  | 0x31 => (f.profile == 0 || f.profile == 1) && !f.high && decide (f.level ≤ 61)
  | 0x32 => f.profile == 0 && !f.interlaced && decide (f.level ≤ 52)
  | _ => true

/-! ## Raw frames (R283) -/

/-- A raw frame decoded; sizes above 16,384 are left to the declared-size check of R294. -/
def rawFrame (data : List Byte) : Media :=
  let w := leAt data 0 2
  let h := leAt data 2 2
  let lay := leAt data 4 1
  let wide := lay == 1
  let nb := if wide then 2 else 1
  let px (off n : Nat) : List Nat := (List.range n).map fun i => leAt data (8 + (off + i) * nb) nb
  let base : Media := { width := w, height := h, bits := if wide then 10 else 8, colour := if lay = 2 then 2 else 1 }
  if data.length < 8 then { base with verdict := 1, known := false, head := false }
  else if 16384 < w ∨ 16384 < h then { base with verdict := 0 }
  else if leAt data 5 3 ≠ 0 ∨ w < 16 ∨ h < 16 ∨ w % 2 ≠ 0 ∨ h % 2 ≠ 0 then { base with verdict := 2 }
  else if 2 < lay then { base with features := { other := true } }
  else if lay = 2 then
    if data.length < 8 + 3 * w * h then { base with verdict := 1 }
    else { base with planes := (List.range 3).map fun p => (List.range (w * h)).map fun i => leAt data (8 + 3 * i + p) 1 }
  else
    let q := w / 2 * (h / 2)
    if data.length < 8 + (w * h + 2 * q) * nb then { base with verdict := 1 }
    else { base with subX := 1, subY := 1, planes := [px 0 (w * h), px (w * h) q, px (w * h + q) q] }

/-! ## Geometry and pyramid (R286, R287); planes as rows -/

/-- One entry of a plane given by rows. -/
def planeAt (p : List (List Nat)) (x y : Nat) : Nat := nth 0 (nth [] p y) x

/-- The working plane of component `i`, chroma upsampled by replication (R286). -/
def workPlane (m : Media) (i : Nat) : List (List Nat) :=
  let sx := if m.colour = 1 ∧ i ≠ 0 then m.subX else 0
  let sy := if m.colour = 1 ∧ i ≠ 0 then m.subY else 0
  let cw := cdiv m.width (2 ^ sx)
  let p := nth [] m.planes i
  (List.range m.height).map fun y => (List.range m.width).map fun x =>
    (nth 0 p ((y >>> sy) * cw + (x >>> sx)) <<< (16 - m.bits)) % 2 ^ 16

/-- `scale_at` of R286. -/
def scaleAt (w : List (List Nat)) (sw sh ow oh ox oy : Nat) : Nat :=
  let pos (o s t : Nat) : Nat :=
    let v : Int := ((2 * o + 1) * s * 128 / t : Nat) - 128
    (min (max v 0) ((s - 1 : Nat) * 256 : Int)).toNat
  let x := pos ox sw ow
  let y := pos oy sh oh
  let x0 := x / 256
  let y0 := y / 256
  let x1 := min (x0 + 1) (sw - 1)
  let y1 := min (y0 + 1) (sh - 1)
  let top := planeAt w x0 y0 * (256 - x % 256) + planeAt w x1 y0 * (x % 256)
  let bot := planeAt w x0 y1 * (256 - x % 256) + planeAt w x1 y1 * (x % 256)
  (top * (256 - y % 256) + bot * (y % 256) + 32768) / 65536

/-- Level 0 of a component (R286). -/
def level0 (c : Nat) (m : Media) (i : Nat) : List (List Nat) :=
  let w := workPlane m i
  (List.range (Ic.outH c)).map fun y => (List.range (Ic.outW c)).map fun x =>
    if Ic.scale c then scaleAt w m.width m.height (Ic.outW c) (Ic.outH c) x y
    else if x < m.width ∧ y < m.height then planeAt w x y
    else Config.uncovered i x y % 2 ^ 16

/-- One pass of the binomial filter along a row, halving it; indices clamp to the edge (R287). -/
def binomial (l : List Nat) : List Nat :=
  let g (i : Int) : Nat := nth 0 l (min (max i 0) ((l.length - 1 : Nat) : Int)).toNat
  (List.range (cdiv l.length 2)).map fun (i : Nat) =>
    let j : Int := 2 * (i : Int)
    (g (j - 2) + 4 * g (j - 1) + 6 * g j + 4 * g (j + 1) + g (j + 2) + 8) / 16

/-- Rows and columns exchanged. -/
def transpose (p : List (List Nat)) : List (List Nat) :=
  (List.range (p.headD []).length).map fun x => p.map fun r => nth 0 r x

/-- Level k + 1 from level k (R287): horizontal, then vertical. -/
def nextLevel (p : List (List Nat)) : List (List Nat) := transpose ((transpose (p.map binomial)).map binomial)

/-- Levels 0 to n - 1 of a plane. -/
def pyramid : Nat → List (List Nat) → List (List (List Nat))
  | 0, _ => []
  | n + 1, p => p :: pyramid n (nextLevel p)

/-! ## Colour (R288) -/

/-- a, b, c, d, Kr, Kg, Kb as FP32 (R288). -/
def coefs (m : Nat) : List Nat :=
  match m with
  | 1 => [0x3fb374bc, 0x3eb032a2, 0x3f36d1a3, 0x3fe2d0e5, 0x3e991687, 0x3f1645a2, 0x3de978d5]
  | 3 => [0x3fbcbfb1, 0x3e28809d, 0x3f124433, 0x3ff0d1b7, 0x3e86809d, 0x3f2d9168, 0x3d72e48f]
  | _ => [0x3fc9930c, 0x3e3fd1ef, 0x3eefadfc, 0x3fed844d, 0x3e59b3d0, 0x3f371759, 0x3d93dd98]

def f32Int (x : Int) : Nat := f32OfQ (Q.ofInt x)

/-- The matrix in force, 0 for none: COLOUR, or what is signalled, BT.709 without a signal (R288). -/
def matrixOf (c : Nat) (m : Media) : Nat :=
  if Ic.colour c = 4 then (if m.matrix = 0 then 2 else m.matrix) else Ic.colour c

/-- Is the range in force FULL? LIMITED without a signal (R288). -/
def fullRange (c : Nat) (m : Media) : Bool := if Ic.range c = 0 then m.range == 2 else Ic.range c == 2

/-- D of R288. -/
def dOf (m : Media) : Nat := (2 ^ m.bits - 1) * 2 ^ (16 - m.bits)

/-- The FP32 components of a pixel's working samples (R288). -/
def components (c : Nat) (m : Media) (w : List Nat) : List Nat :=
  let q (num : Int) (den : Nat) : Nat := f32Div (f32Int num) (f32Int den)
  let at_ (i : Nat) : Int := ((nth 0 w i : Nat) : Int)
  if m.colour = 1 then
    if fullRange c m then [q (at_ 0) (dOf m), q (at_ 1 - 32768) (dOf m), q (at_ 2 - 32768) (dOf m)]
    else [q (at_ 0 - 4096) 56064, q (at_ 1 - 32768) 57344, q (at_ 2 - 32768) 57344]
  else w.map fun (v : Nat) => q (v : Int) (dOf m)

/-- The channel values of a pixel (R288). -/
def channelsOf (c : Nat) (m : Media) (w : List Nat) : List Nat :=
  let x := components c m w
  let g (i : Nat) : Nat := nth 0 x i
  let mx := matrixOf c m
  let k (i : Nat) : Nat := nth 0 (coefs mx) i
  if Ic.channels c = 1 then
    if m.colour = 2 then [f32Add (f32Add (f32Mul (k 4) (g 0)) (f32Mul (k 5) (g 1))) (f32Mul (k 6) (g 2))]
    else [g 0]
  else if m.colour = 0 then [g 0, Config.missingComponent 1 (g 0) % 2 ^ 32, Config.missingComponent 2 (g 0) % 2 ^ 32]
  else if m.colour = 1 && mx != 0 then
    [f32Add (g 0) (f32Mul (k 0) (g 2)),
     f32Sub (f32Sub (g 0) (f32Mul (k 1) (g 1))) (f32Mul (k 2) (g 2)),
     f32Add (g 0) (f32Mul (k 3) (g 1))]
  else [g 0, g 1, g 2]

/-! ## Regions of interest (R292, R293) -/

def tilesW (c : Nat) : Nat := cdiv (Ic.outW c) 64
def tilesH (c : Nat) : Nat := cdiv (Ic.outH c) 64

/-- MB of R292. -/
def roiBytes (c : Nat) : Nat := 64 * cdiv (16 + cdiv (tilesW c * tilesH c) 4) 64

/-- The frame that a map buffer holds whole, if any (R292). -/
def mapFrame (c : Nat) (buf : List Byte) : Option Nat :=
  let f := leAt buf 0 8
  if leAt buf (roiBytes c - 8) 8 = f then some f else none

/-- The detail of a tile under a map, capped (R293). -/
def tileDetail (c : Nat) (map : List Byte) (i : Nat) : Nat :=
  min ((leAt map (8 + i / 4) 1 >>> (2 * (i % 4))) % 4) (Ic.levels c - 1)

/-- Tiles with detail above 0. -/
def tilesCoarse (c : Nat) (map : Option (List Byte)) : Nat :=
  match map with
  | none => 0
  | some b => ((List.range (tilesW c * tilesH c)).filter fun i => tileDetail c b i != 0).length

/-! ## Slots of pictures and sound -/

/-- The slot bytes of a decoded picture (R286-R293). -/
def pictureSlot (c norm : Nat) (m : Media) (map : Option (List Byte)) : List Byte :=
  let n := if m.colour = 0 then 1 else 3
  let pyr := (List.range n).map fun i => pyramid (Ic.levels c) (level0 c m i)
  (List.range (Ic.levels c)).flatMap fun k =>
    partOf c <| (List.range (levelH c k)).flatMap fun y => (List.range (levelW c k)).map fun x =>
      let tile := (y * 2 ^ k / 64) * tilesW c + x * 2 ^ k / 64
      let d := match map with
        | none => 0
        | some b => tileDetail c b tile
      if k < d || (k == 0 && !Ic.scale c && (m.width ≤ x || m.height ≤ y)) then zeroRow c norm
      else
        let w := pyr.map fun l => planeAt (nth [] l k) x y
        ((channelsOf c m w).zipIdx.take (Ic.channels c)).map fun p => normOut c norm p.2 p.1

/-- An audio value as FP32 (R289). -/
def audioValue (m : Media) (x : Int) : Nat :=
  if m.float then (let b := ofSigned 32 x; if (f32 b).isNan then 0x7FC00000 else b)
  else f32OfQ ⟨x, 2 ^ (m.bits - 1)⟩

/-- The slot bytes of decoded sound (R289-R291). -/
def audioSlot (c norm : Nat) (m : Media) : List Byte :=
  let ch := Ic.channels c
  partOf c <| (List.range (Ic.slotLen c)).map fun i =>
    if i < m.frames then (List.range ch).map fun j => normOut c norm j (audioValue m (nth 0 m.values (i * ch + j)))
    else zeroRow c norm

/-- A slot of tokens (R280). -/
def textSlot (c : Nat) (tokens : List Nat) : List Byte :=
  let bs := (List.range (Ic.slotLen c)).flatMap fun i => leBytes 4 (nth (Ic.padToken c) tokens i)
  padTo (roundUp bs.length 64) bs

/-- A slot of the normalised zero value, sidecars included (R290, R297). -/
def holeSlot (c norm kind : Nat) : List Byte :=
  match kind with
  | 1 => textSlot c []
  | 3 => partOf c (List.replicate (Ic.slotLen c) (zeroRow c norm))
  | _ => (List.range (Ic.levels c)).flatMap fun k => partOf c (List.replicate (levelW c k * levelH c k) (zeroRow c norm))

end Sys2Proof.Machine
end

