-- ==== Sys2Proof/Machine/Intake.lean ====
section
/-! DEFINITION. The intake: dictionaries, the tokenizer, batches, samples and the stream state machine (R267-R302). -/

namespace Sys2Proof.Machine

open Sys2Proof.Config (Media)

/-! ## Dictionary images and the tokenizer (R275, R276, R279) -/

namespace Dic
def count (b : List Byte) : Nat := leAt b 4 4
def byteBase (b : List Byte) : Nat := leAt b 8 4
def charAlign (b : List Byte) : Bool := bit (leAt b 12 1) 0
def pool (b : List Byte) : Nat := leAt b 16 8
def number (b : List Byte) (i : Nat) : Nat := leAt b (64 + 8 * i) 4
def len (b : List Byte) (i : Nat) : Nat := fld (leAt b (68 + 8 * i) 4) 31 26 + 1
def off (b : List Byte) (i : Nat) : Nat := fld (leAt b (68 + 8 * i) 4) 25 0
def token (b : List Byte) (i : Nat) : List Byte := slice b (64 + 8 * count b + off b i) (len b i)
end Dic

/-- The fields of an image's first 64 bytes are as R275 gives them. -/
def dictHeadOk (b : List Byte) : Bool :=
  leAt b 0 4 == 0x4B544F4B && decide (1 ≤ Dic.count b) && decide (Dic.count b ≤ 1048576)
    && decide (leAt b 12 1 < 2) && leAt b 13 3 == 0 && decide (1 ≤ Dic.pool b) && decide (Dic.pool b ≤ 67108864)
    && leAt b 24 36 == 0

def noDup : List Nat → Bool
  | [] => true
  | x :: r => !r.contains x && noDup r

/-- A valid image (R276). -/
def dictOk (b : List Byte) : Bool :=
  let n := Dic.count b
  let base := Dic.byteBase b
  dictHeadOk b && leAt b 60 4 == crc32 (b.take 60 ++ List.replicate 4 0#8 ++ b.drop 64)
    && decide (base + 255 ≤ 2 ^ 32 - 1)
    && (List.range n).all (fun i => decide (Dic.off b i + Dic.len b i ≤ Dic.pool b)
      && !(decide (base ≤ Dic.number b i) && decide (Dic.number b i ≤ base + 255)))
    && noDup ((List.range n).map (Dic.number b))

/-- Entries whose bytes an earlier entry has too (R276). -/
def dictDuplicates (b : List Byte) : Nat :=
  ((List.range (Dic.count b)).filter fun i => (List.range i).any fun j => Dic.token b j == Dic.token b i).length

/-- The bytes of an image at a partition offset: the whole of it where its first 64 bytes are in order. -/
def State.dictImage (s : State) (c off : Nat) : List Byte :=
  let h := s.partRead c off 64
  if dictHeadOk h then s.partRead c off (64 + 8 * Dic.count h + Dic.pool h) else h

def startsWith (pre bs : List Byte) : Bool := bs.take pre.length == pre

/-- The entry that R279 takes at the start of `rest`: longest, then lowest number. -/
def bestEntry (d rest : List Byte) : Option (Nat × Nat) :=
  (List.range (Dic.count d)).foldl (fun (b : Option (Nat × Nat)) i =>
    let l := Dic.len d i
    let n := Dic.number d i
    if !(decide (l ≤ rest.length) && startsWith (Dic.token d i) rest) then b
    else if Dic.charAlign d && decide (l < rest.length) && fld (leAt rest l 1) 7 6 == 2 then b
    else match b with
      | none => some (l, n)
      | some (bl, bn) => if bl < l || (l == bl && n < bn) then some (l, n) else b) none

/-- The tokens of R279, each with whether it is a byte fallback. -/
def tokenize (d : List Byte) : Nat → List Byte → List (Nat × Bool)
  | 0, _ => []
  | _ + 1, [] => []
  | fuel + 1, b :: rest =>
    match bestEntry d (b :: rest) with
    | none => (Dic.byteBase d + b.toNat, true) :: tokenize d fuel rest
    | some (l, n) => (n, false) :: tokenize d fuel ((b :: rest).drop l)

/-! ## Stream state (R270, R271) -/

def State.intakeCfg (s : State) (k : Nat) : Nat := s.get 0x4110 (k + 1)
def State.intakeNorm (s : State) (k : Nat) : Nat := s.get 0x4111 (k + 1)
/-- 0 OFF, 1 RUNNING, 2 STOPPING, 3 PENDING_START, 4 REFUSED. -/
def State.intakeState (s : State) (k : Nat) : Nat := fld (s.get 0x4112 (k + 1)) 7 0
def State.setIntakeState (s : State) (k st reason : Nat) : State := s.set 0x4112 (k + 1) (st + reason * 256)
def State.istream (s : State) (k : Nat) : IStream := smGet {} s.intake.streams k
def State.setIstream (s : State) (k : Nat) (x : IStream) : State :=
  { s with intake := { s.intake with streams := smSet {} s.intake.streams k x } }

/-- The KIND of a stream that is not OFF (R270): the one in force, kept through a stop; of a REFUSED stream the configured one. -/
def State.kindOf (s : State) (k : Nat) : Nat :=
  if s.intakeState k = 4 then Ic.kind (s.intakeCfg k) else (s.istream k).kind

/-- The fields each KIND does not use are zero, and no reserved value stands (R268, R270 reason 0x01). -/
def cfgFieldsOk (c : Nat) : Bool :=
  let k := Ic.kind c
  let pic := k == 2 || k == 4
  fld c 279 50 == 0 && fld c 31 30 == 0 && fld c 15 14 == 0 && decide (k ≤ 4) && Ic.roiMode c != 3 && Ic.pyrField c != 7
    && Ic.range c != 3 && decide (Ic.colour c ≤ 4) && Ic.pixelBudget c != 0
    && (Ic.roiMode c == 0 || decide (2 ≤ Ic.pyrField c)) && Ic.roiAddr c % 64 == 0
    && (pic || (Ic.outW c == 0 && Ic.outH c == 0 && Ic.roiAddr c == 0 && !Ic.scale c && Ic.roiMode c == 0
      && Ic.pyrField c == 0 && Ic.range c == 0 && Ic.colour c == 0))
    && (k == 1 || (Ic.padToken c == 0 && Ic.dict c == 0))
    && (k == 1 || k == 3 || Ic.slotLen c == 0) && (k == 3 || Ic.rate c == 0)
    && (k != 1 || (Ic.channels c == 0 && !Ic.normEn c))

/-- Reason 0x02 of R270. -/
def cfgRangesOk (c : Nat) : Bool :=
  let k := Ic.kind c
  let f := Ic.outFormat c
  let pic := k == 2 || k == 4
  let side (n : Nat) : Bool := decide (1 ≤ n) && decide (n ≤ 16384)
  (if k == 1 then f == 7 else f == 1 || f == 2 || f == 4 || f == 5 || f == 6)
    && (if pic then (Ic.channels c == 1 || Ic.channels c == 3) && side (Ic.outW c) && side (Ic.outH c)
        else decide (1 ≤ Ic.slotLen c) && decide (Ic.slotLen c ≤ 16777216))
    && (k != 3 || (decide (1 ≤ Ic.channels c) && decide (Ic.channels c ≤ 8)
      && [8000, 16000, 22050, 24000, 32000, 44100, 48000, 96000, 192000].contains (Ic.rate c)))

/-- The first enable check that fails (R270); 0 when all pass. -/
def State.enableReason (s : State) (k : Nat) : Nat :=
  let c := s.intakeCfg k
  let others := (List.range 128).filter fun j => j != k && s.intakeState j != 0
  let d := nth {} s.intake.dicts (Ic.dict c)
  if !cfgFieldsOk c then 1
  else if !cfgRangesOk c then 2
  else if (s.ctx (Ic.context c)).phase = .free then 3
  else if others.any fun j => Ic.raorn (s.intakeCfg j) == Ic.raorn c then 4
  else if Ic.kind c = 1 ∧ !(d.loaded && d.ctx == Ic.context c) then 5
  else if Ic.kind c = 4 ∧ 48 ≤ (others.filter fun j => s.kindOf j == 4).length then 6
  else if 4294967232 < slotSize c (Ic.kind c) then 7
  else 0

/-- The enable checks run: RUNNING with both cursors at 0, or REFUSED with the reason. -/
def State.enableIntake (s : State) (k : Nat) : State :=
  match s.enableReason k with
  | 0 => (s.setIntakeState k 1 0).setIstream k { kind := Ic.kind (s.intakeCfg k) }
  | r => s.setIntakeState k 4 r

/-! ## Slots, outcomes and the end of a batch (R296-R299) -/

namespace Bat
def stream (d : Nat) : Nat := fld d 10 4
def n (d : Nat) : Nat := fld d 31 16
def slotAddr (d : Nat) : Nat := fld d 71 32
def maskAddr (d : Nat) : Nat := fld d 111 72
def statAddr (d : Nat) : Nat := fld d 151 112
end Bat

def State.modBatch (s : State) (id : Nat) (f : Batch → Batch) : State :=
  { s with intake := { s.intake with batches := mapIf (fun b => b.flight == id) f s.intake.batches } }

/-- Bytes an engine's command stores in its context's partition, with what its accesses meet; statuses join the flight. -/
def State.engineStore (s : State) (f : Flight) (off : Nat) (bs : List Byte) : State :=
  let (s1, st) := (s.partWrite f.ctx off bs).met f.ctx (s.partTouch f.ctx off bs.length true 2) s.mem
  s1.modFlight f.id fun f => { f with found := f.found ++ st }

/-- What an engine's command reads meets the memory system; statuses join the flight. -/
def State.engineFetch (s : State) (f : Flight) (off n op : Nat) : State :=
  let (s1, st) := s.met f.ctx (s.partTouch f.ctx off n false op) s.mem
  s1.modFlight f.id fun f => { f with found := f.found ++ st }

/-- The validity mask of a batch (R298). -/
def maskBytes (n : Nat) (outs : List Outcome) : List Byte :=
  (List.range (cdiv n 8)).map fun i => BitVec.ofNat 8 <|
    (List.range 8).foldl (fun a b => a + b2n (outs.any fun o => o.slot == 8 * i + b && o.status == 0) * 2 ^ b) 0

/-- The status records of a batch (R298). -/
def statBytes (n : Nat) (outs : List Outcome) : List Byte :=
  (List.range n).flatMap fun i =>
    match outs.find? fun o => o.slot == i with
    | some o => leBytes 1 o.status ++ leBytes 1 o.reason ++ leBytes 2 o.roi ++ leBytes 4 o.count
    | none => List.replicate 8 0#8

/-- The mask, the records and the final completion, once every slot is resolved (R299). -/
def State.batchDone (s : State) (b : Batch) : State :=
  match s.flight b.flight with
  | none => s
  | some f =>
    let s := { s with intake := { s.intake with batches := s.intake.batches.filter fun x => x.flight != b.flight } }
    let s := s.engineStore f (Bat.maskAddr f.desc.toNat) (maskBytes b.n b.outs)
    let s := s.engineStore f (Bat.statAddr f.desc.toNat) (statBytes b.n b.outs)
    let s := s.ownClaim [b.stream, b.first, b.n, crc32 (maskBytes b.n b.outs)]
    let holes := b.outs.any fun o => o.status != 0
    match s.flight b.flight with
    | some f => s.finish f (if holes then [.doneWithHoles] else [])
    | none => s

/-- The counter of an outcome (R297). -/
def outcomeCounter (status : Nat) : Nat :=
  if status = 0 then 1 else if status = 0x40 then 2 else if status = 0x41 then 3 else if status = 0x42 then 4 else 5

/-- One claimed sample resolved: its slot or hole written, its outcome kept, the batch completed when it was the last. -/
def State.resolve (s : State) (b : Batch) (o : Outcome) (bytes : List Byte) : State :=
  match s.flight b.flight with
  | none => s
  | some f =>
    let c := s.intakeCfg b.stream
    let size := slotSize c (s.istream b.stream).kind
    let s := s.engineStore f (Bat.slotAddr f.desc.toNat + o.slot * size) bytes
    let s := (s.bump 0x8037 (outcomeCounter o.status) 1).modBatch b.flight fun b => { b with outs := b.outs ++ [o] }
    let x := s.istream b.stream
    let n := b.first + o.slot
    let s := s.setIstream b.stream { x with
      samples := if x.kind = 4 then x.samples else x.samples.filter fun m => m.n != n,
      roiWait := x.roiWait.filter (· != n) }
    let b := { b with outs := b.outs ++ [o] }
    if b.outs.length = b.n then s.batchDone b else s

/-- A claimed sample that becomes a hole (R297). -/
def State.resolveHole (s : State) (b : Batch) (slot status reason : Nat) : State :=
  s.resolve b ⟨slot, status, reason, 0xFFFF, 0⟩
    (holeSlot (s.intakeCfg b.stream) (s.intakeNorm b.stream) (s.istream b.stream).kind)

/-- The batch that has claimed sample `n` of a stream and not resolved it. -/
def State.batchOf (s : State) (k n : Nat) : Option Batch :=
  s.intake.batches.find? fun b => b.stream == k && decide (b.first ≤ n) && decide (n < b.first + b.n)
    && !b.outs.any fun o => o.slot == n - b.first

/-- Every slot of a batch still open becomes a SAMPLE_LATE hole, reason 0x02 (R271). -/
def State.lateAll (s : State) (b : Batch) : State :=
  (List.range b.n).foldl (fun s i =>
    match s.batchOf b.stream (b.first + i) with
    | some b => s.resolveHole b i 0x43 2
    | none => s) s

def sampleWire (x : Sample) : List Byte := leBytes 8 x.hdr ++ x.data

/-- The bytes of the host's samples that wait unclaimed on an intake stream's Raorn stream (R296, R346). -/
def IStream.waiting (x : IStream) : Nat :=
  ((x.samples.filter fun m => decide (x.claim ≤ m.n) && !m.site).map fun m => (sampleWire m).length).foldl (· + ·) 0

/-- A host's sample leaves the receive buffer. -/
def State.takeSample (s : State) (k : Nat) (m : Sample) : State :=
  if m.site then s else s.consume (Ic.raorn (s.intakeCfg k)) (sampleWire m)

/-- A stop begins (R271): open slots become holes, unclaimed data is discarded and counted. -/
def State.stopIntake (s : State) (k next : Nat) : State :=
  let s := (s.intake.batches.filter fun b => b.stream == k).foldl State.lateAll s
  let x := s.istream k
  let gone := x.samples.filter fun m => decide (x.claim ≤ m.n)
  let s := gone.foldl (fun s m => (s.takeSample k m).bump 0x8037 0x0B m.data.length) s
  (s.setIstream k { x with samples := [], roiWait := [] }).setIntakeState k next 0

/-- INTAKE_STOP_COMPLETE (R270, R271): OFF, or the queued start's enable checks. -/
def execIntakeStopComplete (k : Nat) (s : State) : Host.Outcome State Fault Refusal :=
  .next (match s.intakeState k with
    | 2 => (s.setIstream k { s.istream k with kind := 0 }).setIntakeState k 0 0
    | 3 => (s.setIstream k { s.istream k with kind := 0 }).enableIntake k
    | _ => s)

/-- May INTAKE_CONFIG take this value now (R270)? Outside OFF and REFUSED a write may change KIND only. -/
def State.intakeCfgOk (s : State) (k v : Nat) : Bool :=
  let st := s.intakeState k
  st == 0 || st == 4 || v - Ic.kind v == s.intakeCfg k - Ic.kind (s.intakeCfg k)

/-- INTAKE_CONFIG written (R270). -/
def State.writeIntakeCfg (s : State) (k v : Nat) : State :=
  let st := s.intakeState k
  let s1 := s.set 0x4110 (k + 1) v
  let kd := Ic.kind v
  match st with
  | 0 => if kd = 0 then s1 else s1.enableIntake k
  | 4 => if kd = 0 then s1.setIntakeState k 0 0 else s1.enableIntake k
  | 1 => if kd = 0 then s1.stopIntake k 2 else if kd = (s.istream k).kind then s1 else (s1.stopIntake k 3).bump 0x803C 8 1
  | 2 => if kd = 0 then s1 else (s1.setIntakeState k 3 0).bump 0x803C 8 1
  | _ => if kd = 0 then s1.setIntakeState k 2 0 else s1

/-- The intake streams of a retired context stop, and its dictionary slots return to FREE (R270, R278). -/
def State.retireIntake (s : State) (c : Nat) : State :=
  let s := ((List.range 128).filter fun k => s.intakeState k == 1 && Ic.context (s.intakeCfg k) == c).foldl
    (fun s k => s.stopIntake k 2) s
  { s with intake := { s.intake with dicts := mapIf (fun d => d.loaded && d.ctx == c) (fun _ => {}) s.intake.dicts } }

/-! ## BATCH (R277, R296) -/

def batchDescOk (d : Nat) : Bool :=
  fld d 15 11 == 0 && fld d 511 152 == 0 && Bat.n d != 0 && Bat.slotAddr d % 64 == 0 && Bat.maskAddr d % 64 == 0
    && Bat.statAddr d % 64 == 0

def State.batchOk (s : State) (c d : Nat) : Bool :=
  batchDescOk d && s.intakeState (Bat.stream d) == 1 && Ic.context (s.intakeCfg (Bat.stream d)) == c

/-- What a batch's TIMEOUT leaves (R299): its open claims are discarded as they arrive. -/
def State.dropBatch (s : State) (id : Nat) : State :=
  match s.intake.batches.find? fun b => b.flight == id with
  | none => s
  | some b =>
    let isOpen (n : Nat) : Bool := decide (b.first ≤ n) && decide (n < b.first + b.n) && !b.outs.any fun o => o.slot == n - b.first
    let x := s.istream b.stream
    let gone := x.samples.filter fun m => isOpen m.n
    let s := gone.foldl (fun s m => s.bump 0x8037 0x0B m.data.length) s
    let s := s.setIstream b.stream { x with
      samples := if x.kind = 4 then x.samples else x.samples.filter fun m => !isOpen m.n,
      dead := x.dead ++ [(b.first, b.n)], roiWait := x.roiWait.filter fun n => !isOpen n }
    { s with intake := { s.intake with batches := s.intake.batches.filter fun x => x.flight != id } }

/-! ## SAMPLE (R272-R274) -/

/-- The inbound open-site channels bound to a Raorn stream (R46, R274). -/
def State.siteBound (s : State) (raorn : Nat) : Bool :=
  (List.range 64).any fun ch =>
    let b := s.get 0x1061 (ch + 1)
    fld b 31 30 == 1 && fld b 13 0 == raorn

/-- Credits that a bound channel's die is granted, in 256-byte units (R47): as the intake consumes data. What stands behind
the claims of the channel's stream waits. -/
def State.siteGrant (s : State) (ch : Nat) : State :=
  let b := s.siteBind ch
  let x := s.siteCh ch
  let free := (List.range 128).all fun k =>
    let i := s.istream k
    s.intakeState k != 1 || Ic.raorn (s.intakeCfg k) != fld b 13 0
      || (if x.opened then decide (i.arrived < i.claim) else decide (i.arrived ≤ i.claim))
  if fld b 31 30 ≠ 1 ∨ x.owed = 0 ∨ !free then s
  else
    let msg := siteHdr x.outSeq 0 2 ch x.owed
    let y : SiteCh := { x with inCredits := x.inCredits + x.owed, owed := 0, outSeq := (x.outSeq + 1) % 65536 }
    (s.setSiteCh ch y).send (.site ch) msg

/-- The credits of every channel that feeds an intake stream, after its samples were claimed or resolved. -/
def State.siteGrants (s : State) : State := (s.pkg.site.map (·.1)).foldl State.siteGrant s

/-! ## SAMPLE_RESOLVED, TIME_BUDGET, ROI_REREAD (R285-R297) -/

/-- The outcome of a sample's decoding: a hole, a picture still to be post-processed, or the finished slot. -/
inductive Verdict where
  | hole (status reason : Nat)
  | picture (m : Media)
  | slot (reason count : Nat) (bytes : List Byte)
  deriving DecidableEq, Repr

def containerOf (hdr : Nat) : Nat := fld hdr 39 32

/-- A sample header is valid and its CONTAINER is one of the KIND (R272, R283). -/
def sampleHdrOk (kind hdr : Nat) : Bool :=
  let c := containerOf hdr
  fld hdr 47 41 == 0 && fld hdr 63 48 == 0 &&
    match kind with
    | 1 => c == 0x20
    | 2 => c == 1 || c == 2 || c == 3
    | 3 => c == 0x10 || c == 0x11 || c == 0x12
    | _ => c == 0x30 || c == 0x31 || c == 0x32

/-- The largest width and height of a container's standard (R283). -/
def sizeLimit (container : Nat) : Nat × Nat :=
  match container with
  | 0x30 => (8192, 4352)
  | 0x31 => (8192, 4320)
  | 0x32 => (4096, 2304)
  | _ => (16384, 16384)

/-- Holes of a decoder's verdict (R297); an open-site sample closed early is TRUNCATED with reason 0x02. -/
def mediaHole (m : Media) (early : Bool) : Option (Nat × Nat) :=
  match m.verdict with
  | 0 => if early then some (0x41, 2) else none
  | 1 => some (0x41, if early then 2 else 1)
  | _ => some (0x42, 1)

/-- The size check of a picture (R294): over PIXEL_BUDGET, or over a limit of R283. -/
def pictureOver (c container w h : Nat) : Option (Nat × Nat) :=
  if Ic.pixelBudget c < w * h then some (0x40, 1)
  else if (sizeLimit container).1 < w ∨ (sizeLimit container).2 < h then some (0x40, 2)
  else none

/-- What the headers of a picture show of its format (R283, R288): an unsupported feature, or matrix under AS_SIGNALLED. -/
def pictureFormat (c container : Nat) (m : Media) : Option (Nat × Nat) :=
  if m.head && (!supported container m.features || (m.colour == 1 && Ic.colour c == 4 && decide (4 ≤ m.matrix))) then some (0x42, 2)
  else none

/-- The verdict on a picture (R283, R288, R294, R297): what its headers show comes before what its data shows. -/
def pictureVerdict (c container : Nat) (m : Media) (early : Bool) : Verdict :=
  match ((if m.known then pictureOver c container m.width m.height else none).or (pictureFormat c container m)).or
      (mediaHole m early) with
  | some h => .hole h.1 h.2
  | none => .picture m

/-- What the headers of sound show (R283, R294, R297): a declared size over the budget, an unsupported feature, or channels or a
rate other than the stream's. -/
def soundHeader (c container : Nat) (m : Media) : Option (Nat × Nat) :=
  if !m.head then none
  else if decide (Ic.pixelBudget c < m.declared.getD 0) then some (0x40, 1)
  else if !supported container m.features then some (0x42, 2)
  else if m.channels ≠ Ic.channels c ∨ m.rate ≠ Ic.rate c then some (0x42, 4)
  else none

/-- The verdict on sound (R283, R291, R294): without a declared size the frames decoded are checked as they grow. -/
def audioVerdict (c norm container : Nat) (m : Media) (early : Bool) : Verdict :=
  let grown := if m.declared = none ∧ Ic.pixelBudget c < m.frames then some (0x40, 1) else none
  match ((soundHeader c container m).or grown).or (mediaHole m early) with
  | some h => .hole h.1 h.2
  | none => .slot (if Ic.slotLen c < m.frames then 1 else 0) m.frames (audioSlot c norm m)

/-- The tokens of a text sample under the dictionary in force. -/
def State.textTokens (s : State) (c : Nat) (data : List Byte) : List (Nat × Bool) :=
  let d := s.dictImage (Ic.context c) (nth {} s.intake.dicts (Ic.dict c)).image
  tokenize d data.length data

/-- The verdict on text (R280, R294). -/
def State.textVerdict (s : State) (c : Nat) (x : Sample) : Verdict :=
  if Ic.pixelBudget c < fld x.hdr 31 0 then .hole 0x40 1
  else if !sampleHdrOk 1 x.hdr then .hole 0x42 3
  else if x.early then .hole 0x41 2
  else
    let t := s.textTokens c x.data
    .slot (if Ic.slotLen c < t.length then 1 else 0) t.length (textSlot c (t.map (·.1)))

/-- Opus decodes at 48 kHz to 24-bit integers (R283, R289); only WAV carries floats. -/
def soundMedia (container : Nat) (m : Media) : Media :=
  if container = 0x12 then { m with rate := 48000, bits := 24, float := false }
  else if container = 0x11 then { m with float := false } else m

/-- A JPEG is BT.601 FULL (R288). -/
def jpegMedia (m : Media) : Media := { m with matrix := 1, range := 2 }

/-- The access units of a video stream: the CONTAINER of its first sample, and each unit with its FLUSH flag. -/
def IStream.units (x : IStream) : Nat × List (Bool × List Byte) :=
  (containerOf ((x.samples.head?.map (·.hdr)).getD 0), x.samples.map fun m => (bit m.hdr 40, m.data))

/-- What the decoder makes of each access unit so far. -/
def IStream.media (x : IStream) : List Media :=
  let (first, units) := x.units
  (List.range units.length).map (Config.videoDecode first (units.map (·.2)))

/-- The size that the latest sequence header up to unit `i` declares (R294). -/
def seqSize (ms : List Media) (i : Nat) : Option (Nat × Nat) :=
  (ms.take (i + 1)).foldl (fun z m => if m.seqHdr && m.known then some (m.width, m.height) else z) none

/-- What access unit `i` shows by itself (R283, R285, R294, R297): a video stream keeps the CONTAINER of its first sample, and what
its decoder held at a retention entry is lost (R423). -/
def IStream.unitHole (x : IStream) (c first : Nat) (ms : List Media) (i : Nat) : Option (Nat × Nat) :=
  let m := nth {} ms i
  match x.samples[i]? with
  | none => none
  | some u =>
    if !sampleHdrOk 4 u.hdr || containerOf u.hdr != first then some (0x42, 3)
    else if i < x.lostAt then some (0x42, 5)
    else (((seqSize ms i).bind fun z => pictureOver c first z.1 z.2).or (pictureFormat c first m)).or (mediaHole m u.early)

/-- The access units without a frame, by position (R285): a unit that is a hole by itself, and, up to the next random access point,
one that references such a unit, directly or through another. -/
def IStream.lost (x : IStream) (c first : Nat) (ms : List Media) : List Bool :=
  (List.range ms.length).foldl (fun (l : List Bool) i =>
    let m := nth {} ms i
    l ++ [(x.unitHole c first ms i).isSome || (!m.random && m.refs.any fun j => nth false l j)]) []

/-- The verdict on a frame of display number `n`, once the decoder puts it out (R273, R285). -/
def IStream.videoVerdict (x : IStream) (c n : Nat) : Option Verdict :=
  let (first, units) := x.units
  let ms := x.media
  (Config.videoOrder first units)[n]?.map fun i =>
    match x.unitHole c first ms i with
    | some h => .hole h.1 h.2
    | none => if nth false (x.lost c first ms) i then .hole 0x42 5 else .picture (nth {} ms i)

/-- The verdict on a sample other than video: on the whole of it, or on an open-site sample's bytes so far. -/
def State.mediaVerdict (s : State) (k : Nat) (m : Sample) : Verdict :=
  let c := s.intakeCfg k
  let kind := (s.istream k).kind
  if kind = 1 then s.textVerdict c m
  else if !sampleHdrOk kind m.hdr then .hole 0x42 3
  else
    let ct := containerOf m.hdr
    if kind = 3 then audioVerdict c (s.intakeNorm k) ct (soundMedia ct (Config.mediaDecode ct m.data)) m.early
    else
      let md := if ct = 3 then rawFrame m.data else Config.mediaDecode ct m.data
      pictureVerdict c ct (if ct = 1 then jpegMedia md else md) m.early

/-- The verdict on sample `n` of a stream, where what it needs has arrived (R273, R285). -/
def State.verdict (s : State) (k n : Nat) : Option Verdict :=
  let x := s.istream k
  if x.kind = 4 then x.videoVerdict (s.intakeCfg k) n
  else (x.samples.find? fun m => m.n == n).map (s.mediaVerdict k)

/-! ## Claims and arrivals (R272-R274, R294, R296) -/

/-- The size by which a verdict rejects a sample (R294): a hole SAMPLE_OVERSIZE and its reason. -/
def Verdict.over : Verdict → Option Nat
  | .hole 0x40 r => some r
  | _ => none

/-- Claimed samples that declare too large a size are rejected as soon as it is known (R294). -/
def State.rejectOver (s : State) (k : Nat) : State :=
  let open_ := (s.intake.batches.filter fun b => b.stream == k).flatMap fun b => (List.range b.n).map (b.first + ·)
  open_.foldl (fun s n =>
    match s.batchOf k n, (s.verdict k n).bind Verdict.over with
    | some b, some r => s.resolveHole b (n - b.first) 0x40 r
    | _, _ => s) s

/-- The next N sample numbers claimed; the data of those that have arrived leaves the receive window. -/
def State.claimBatch (s : State) (f : Flight) : State :=
  let d := f.desc.toNat
  let k := Bat.stream d
  let x := s.istream k
  let b := Batch.mk f.id k x.claim (Bat.n d) []
  let now := x.samples.filter fun m => decide (x.claim ≤ m.n) && decide (m.n < x.claim + Bat.n d)
  let s := now.foldl (fun s m => s.takeSample k m) s
  let s := (s.setIstream k { x with claim := x.claim + Bat.n d }).ownClaim [k, x.claim, Bat.n d]
  State.rejectOver { s with intake := { s.intake with batches := s.intake.batches ++ [b] } } k

/-- A sample with its header arrives whole, or closed early by the open site: numbered and queued (R272, R273);
one whose slot is resolved already is not kept. -/
def State.sampleArrives (s : State) (k hdr : Nat) (data : List Byte) (early site : Bool) : State :=
  let x := s.istream k
  let m : Sample := ⟨x.arrived, hdr, data, early, site⟩
  let isDead := x.dead.any fun r => decide (r.1 ≤ m.n) && decide (m.n < r.1 + r.2)
  let s := if m.n < x.claim then s.takeSample k m else s
  let s := if isDead then s.bump 0x8037 0x0B data.length else s
  let done := decide (m.n < x.claim) && (s.batchOf k m.n).isNone
  let ms := if done && x.kind != 4 then x.samples else x.samples ++ [m]
  (s.setIstream k { x with arrived := x.arrived + 1, samples := ms }).rejectOver k

/-- BATCH (R296): the claim, and the credits it frees. -/
def execBatch (d : Dispatch) (s : State) : Host.Outcome State Fault Refusal :=
  let desc := force d.desc 3 0 1
  .next (s.engineCommand d desc .intake (fun s => s.batchOk d.ctx desc.toNat) fun s f => (s.claimBatch f).siteGrants)

/-- SAMPLE (R272): a whole sample stands on the Raorn stream behind those that wait there (R346). On a stream that a bound open-site channel feeds, host data is discarded and counted (R274). -/
def execSample (k hdr : Nat) (data : List Byte) (s : State) : Host.Outcome State Fault Refusal :=
  let raorn := Ic.raorn (s.intakeCfg k)
  let wire := leBytes 8 hdr ++ data
  let skip := (s.istream k).waiting
  .next (if data.length ≠ fld hdr 31 0 || !(s.strm raorn).hearsAt 4 skip wire then s
    else if s.siteBound raorn then (s.consumeAt raorn skip wire).bump 0x8037 0x0B data.length
    else if s.intakeState k ≠ 1 then s
    else s.sampleArrives k hdr data false false)

/-- The map buffer of parity `p`, as bytes. -/
def State.roiBuffer (s : State) (c p : Nat) : List Byte :=
  s.partRead (Ic.context c) (Ic.roiAddr c + p * roiBytes c) (roiBytes c)

/-- The ROI choice of R293 for frame `f`: none while STRICT waits; else the map with its FRAME, if one is chosen. -/
def State.roiChoice (s : State) (c f : Nat) : Option (Option (Nat × List Byte)) :=
  let buf (p : Nat) : Option (Nat × List Byte) :=
    let b := s.roiBuffer c p
    (mapFrame c b).bind fun g => if g % 2 = p ∧ g < f then some (g, b) else none
  if Ic.roiMode c = 0 ∨ f = 0 then some none
  else if Ic.roiMode c = 1 then
    match buf ((f - 1) % 2) with
    | some (g, b) => if g = f - 1 then some (some (g, b)) else none
    | none => none
  else
    match buf 0, buf 1 with
    | some x, some y => some (some (if x.1 < y.1 then y else x))
    | some x, none => some (some x)
    | none, y => some y

/-- A decoded picture is post-processed: its ROI map is chosen, or awaited (R293). -/
def State.postProcess (s : State) (b : Batch) (slot n : Nat) (m : Media) : State :=
  let c := s.intakeCfg b.stream
  let s := match s.flight b.flight with
    | some f => if Ic.roiMode c = 0 ∨ n = 0 then s else s.engineFetch f (Ic.roiAddr c) (2 * roiBytes c) 4
    | none => s
  match s.roiChoice c n with
  | none =>
    let x := s.istream b.stream
    s.setIstream b.stream { x with roiWait := if x.roiWait.contains n then x.roiWait else x.roiWait ++ [n] }
  | some ch =>
    let map := ch.map (·.2)
    let s := s.bump 0x8037 0x0C (tilesCoarse c map)
    let roi := match ch with
      | some x => x.1 % 65536
      | none => 0xFFFF
    s.resolve b ⟨slot, 0, 0, roi, 0⟩ (pictureSlot c (s.intakeNorm b.stream) m map)

/-- Counts of a tokenized sample (R279, R280, R302), and the dictionary bytes read. -/
def State.countText (s : State) (k n : Nat) (b : Batch) : State :=
  let c := s.intakeCfg k
  match (s.istream k).samples.find? fun m => m.n == n with
  | none => s
  | some m =>
    let t := s.textTokens c m.data
    let d := nth {} s.intake.dicts (Ic.dict c)
    let s := match s.flight b.flight with
      | some f => s.engineFetch f d.image (s.dictImage (Ic.context c) d.image).length 4
      | none => s
    let s := ((s.bump 0x8037 6 m.data.length).bump 0x8037 7 t.length).bump 0x8037 8 (t.filter (·.2)).length
    s.bump 0x8037 9 (t.length - Ic.slotLen c)

/-- The access units up to that of frame `n` have been through the decoder, claimed or late (R285): each frame decoded is counted. -/
def State.countFrames (s : State) (k n : Nat) : State :=
  let x := s.istream k
  if x.kind ≠ 4 ∨ x.claim ≤ n then s
  else
    let (first, units) := x.units
    match (Config.videoOrder first units)[n]? with
    | none => s
    | some i =>
      let lost := x.lost (s.intakeCfg k) first x.media
      let good := (List.range (i + 1)).filter fun j => decide (x.decoded ≤ j) && !nth true lost j
      (s.setIstream k { x with decoded := max x.decoded (i + 1) }).bump 0x8037 0x0F good.length

/-- SAMPLE_RESOLVED (R297): the end of the work on claimed sample `n`; nothing happens before its data is there. -/
def State.sampleResolved (s : State) (k n : Nat) : State :=
  let s := s.countFrames k n
  match s.batchOf k n, s.verdict k n with
  | some b, some v =>
    let slot := n - b.first
    let kind := (s.istream k).kind
    match v with
    | .hole st r => s.resolveHole b slot st r
    | .picture m => s.postProcess b slot n m
    | .slot r count bytes =>
      let s := if kind = 1 then s.countText k n b
        else s.bump 0x8037 0x0A (count - Ic.slotLen (s.intakeCfg k))
      s.resolve b ⟨slot, 0, r, 0xFFFF, count⟩ bytes
  | _, _ => s

def execSampleResolved (k n : Nat) (s : State) : Host.Outcome State Fault Refusal :=
  .next (if (s.istream k).roiWait.contains n then s else (s.sampleResolved k n).siteGrants)

/-- ROI_REREAD (R293): the awaited map is read again. -/
def execRoiReread (k n : Nat) (s : State) : Host.Outcome State Fault Refusal :=
  .next (if !(s.istream k).roiWait.contains n then s
    else match s.batchOf k n, s.verdict k n with
      | some b, some (.picture m) => s.postProcess b (n - b.first) n m
      | _, _ => s)

/-- Has the first byte of sample `n` arrived (R295): the sample is there, or has begun on its Raorn stream or bound open-site channel; of a video
frame, its own coded data is there? -/
def State.firstByteIn (s : State) (k n : Nat) : Bool :=
  let x := s.istream k
  let site := (List.range 64).any fun ch =>
    let b := s.get 0x1061 (ch + 1)
    fld b 31 30 == 1 && fld b 13 0 == Ic.raorn (s.intakeCfg k) && (s.siteCh ch).sample != []
  if x.kind = 4 then (let u := x.units; (Config.videoUnit u.1 (u.2.map (·.2)) n).isSome)
  else decide (n < x.arrived) || (n == x.arrived && s.intakeState k == 1
    && (site || (!s.siteBound (Ic.raorn (s.intakeCfg k)) && x.waiting < (s.strm (Ic.raorn (s.intakeCfg k))).rxBytes.length)))

/-- TIME_BUDGET (R295): a claimed sample whose first byte has arrived becomes a SAMPLE_LATE hole. -/
def execTimeBudget (k n : Nat) (s : State) : Host.Outcome State Fault Refusal :=
  .next (match s.batchOf k n with
    | some b => if s.retaining ∨ Ic.timeBudget (s.intakeCfg k) = 0 ∨ !s.firstByteIn k n then s
      else s.resolveHole b (n - b.first) 0x43 1
    | none => s)

/-! ## Dictionary commands (R277, R278, R282) -/

namespace Dc
def slot (d : Nat) : Nat := fld d 5 4
def image (d : Nat) : Nat := fld d 45 6
def index (d : Nat) : Nat := fld d 85 46
def count (d : Nat) : Nat := fld d 77 46
def dst (d : Nat) : Nat := fld d 117 78
def dstBytes (d : Nat) : Nat := fld d 149 118
def result (d : Nat) : Nat := fld d 189 150
end Dc

def State.dict (s : State) (i : Nat) : DictSlot := nth {} s.intake.dicts i

/-- Does a DICT_LOAD lose its slot to another that takes it in the same cycle (R91, R278)? -/
def State.dictLost (s : State) (d : Dispatch) (n : Nat) : Bool :=
  (d.env.contests.filter (s.engineAsks d.ctx .intake n)).any fun x =>
    x.res == .dict && arbWinner (smGet 0 s.cores.ptrs (ptrKey .dict x.unit)) x.reqs != d.ctx

def State.dictLoadOk (s : State) (d : Nat) : Bool :=
  fld d 511 86 == 0 && Dc.image d % 64 == 0 && Dc.index d % 64 == 0 && !(s.dict (Dc.slot d)).loaded

/-- Free bytes: what the lookup index holds is the device's own (R278). -/
def freeBytes (n : Nat) (s : State) : State × List Byte :=
  ({ s with free := s.free + n }, (List.range n).map fun i => BitVec.ofNat 8 (Config.freeValue (s.free + i) 8))

/-- DICT_LOAD (R278): the index is built and the slot is LOADED by the context. -/
def State.dictLoad (s : State) (f : Flight) : State :=
  let d := f.desc.toNat
  let img := s.dictImage f.ctx (Dc.image d)
  let s := s.engineFetch f (Dc.image d) img.length 0
  let done (s : State) (st : List Status) : State :=
    match s.flight f.id with
    | some f => s.finish f st
    | none => s
  if !dictOk img then done s [.descriptorInvalid]
  else
    let (s, ix) := freeBytes (32 * Dic.count img + 1048576) s
    let s := s.engineStore f (Dc.index d) ix
    let s := s.bump 0x8037 0x0E (dictDuplicates img)
    let slot : DictSlot := ⟨true, f.ctx, Dic.count img, Dc.image d⟩
    done { s with intake := { s.intake with dicts := modNth s.intake.dicts (Dc.slot d) fun _ => slot } } []

def execDictLoad (d : Dispatch) (s : State) : Host.Outcome State Fault Refusal :=
  let desc := force d.desc 3 0 2
  .next (s.engineCommand d desc .intake (fun s => s.dictLoadOk desc.toNat && !s.dictLost d desc.toNat) State.dictLoad)

def State.dictMine (s : State) (c i : Nat) : Bool := (s.dict i).loaded && (s.dict i).ctx == c

/-- A TEXT stream of the context that is not OFF uses the slot. -/
def State.dictInUse (s : State) (c i : Nat) : Bool :=
  (List.range 128).any fun k =>
    let g := s.intakeCfg k
    s.intakeState k != 0 && s.kindOf k == 1 && Ic.context g == c && Ic.dict g == i

def State.dictUnload (s : State) (f : Flight) : State :=
  let s := { s with intake := { s.intake with dicts := modNth s.intake.dicts (Dc.slot f.desc.toNat) fun _ => {} } }
  s.finish f []

def execDictUnload (d : Dispatch) (s : State) : Host.Outcome State Fault Refusal :=
  let desc := force d.desc 3 0 3
  let n := desc.toNat
  .next (s.engineCommand d desc .intake (fun s => fld n 511 6 == 0 && s.dictMine d.ctx (Dc.slot n)
    && !s.dictInUse d.ctx (Dc.slot n)) State.dictUnload)

/-- The bytes of one token, if it is known (R282). -/
def detokOne (d : List Byte) (t : Nat) : Option (List Byte) :=
  match (List.range (Dic.count d)).find? fun i => Dic.number d i == t with
  | some i => some (Dic.token d i)
  | none => if Dic.byteBase d ≤ t ∧ t ≤ Dic.byteBase d + 255 then some [BitVec.ofNat 8 (t - Dic.byteBase d)] else none

/-- DETOK's conversion: bytes written, tokens consumed, unknown tokens (R282). -/
def detokenize (d : List Byte) (cap : Nat) : List Nat → List Byte → Nat → Nat → List Byte × Nat × Nat
  | [], out, n, u => (out, n, u)
  | t :: r, out, n, u =>
    match detokOne d t with
    | none => detokenize d cap r out (n + 1) (u + 1)
    | some b => if cap < out.length + b.length then (out, n, u) else detokenize d cap r (out ++ b) (n + 1) u

/-- DETOK (R282). -/
def State.detok (s : State) (f : Flight) : State :=
  let d := f.desc.toNat
  let off := (s.dict (Dc.slot d)).image
  let img := s.dictImage f.ctx off
  let src := s.partRead f.ctx (Dc.image d) (4 * Dc.count d)
  let toks := (List.range (Dc.count d)).map fun i => leAt src (4 * i) 4
  let (out, n, u) := detokenize img (Dc.dstBytes d) toks [] 0 0
  let s := (s.engineFetch f off img.length 0).engineFetch f (Dc.image d) (4 * Dc.count d) 1
  let s := (s.engineStore f (Dc.dst d) out).bump 0x8037 0x0D u
  let s := s.engineStore f (Dc.result d) (leBytes 4 out.length ++ leBytes 4 n ++ leBytes 4 u ++ leBytes 4 0)
  match s.flight f.id with
  | some f => s.finish f []
  | none => s

def execDetok (d : Dispatch) (s : State) : Host.Outcome State Fault Refusal :=
  let desc := force d.desc 3 0 4
  let n := desc.toNat
  .next (s.engineCommand d desc .intake (fun s => fld n 511 190 == 0 && s.dictMine d.ctx (Dc.slot n)) State.detok)

end Sys2Proof.Machine
end

