-- ==== Sys2Proof/Machine/Wipe.lean ====
section
/-! DEFINITION. Wipes (R261, R262, R310): which locations each event clears, and what goes with them. -/

namespace Sys2Proof.Machine

/-- Global cluster of a flat pool address, and the core and slot of a flat slice address. -/
def poolCluster (a : Nat) : Nat := (a - poolFlat) / 2 ^ 20
def sliceKey (a : Nat) : Nat := (a - sliceFlat) / sliceBytes

/-- The locations of one context: its partition, its pool share, its slices (R306). -/
def ctxOwns (x : Ctx) (a : Nat) : Bool :=
  let fp := Rec.footprint x.record
  if a < hbmBytes then decide (x.partBase ≤ a) && decide (a < x.partBase + x.partSize)
  else if a < poolFlat then false
  else if a < sliceFlat then
    let o := (a - poolFlat) % 2 ^ 20
    bit fp (groupOf (poolCluster a * 80)) && decide (x.poolBase ≤ o) && decide (o < x.poolBase + x.poolSize)
  else sliceKey a % 8 == Rec.slot x.record && holdsSlot' fp (sliceKey a / 8)
where
  holdsSlot' (fp core : Nat) : Bool := decide (core < 80000) && bit fp (groupOf core)

/-- A set of flat locations wiped: zero with valid check bits. Every wipe clears the lost-line lists (R254): a listed line that it
does not cover reads as HBM holds it from then on. -/
def State.wipeWhere (s : State) (p : Nat → Bool) : State :=
  { s with mem := smDrop p s.mem, ue := smDrop p s.ue, memsys := { s.memsys with lost := [] } }

/-- Cache lines gone without a write-back. -/
def State.dropLines (s : State) (p : CacheLine → Bool) : State :=
  { s with memsys := { s.memsys with lines := s.memsys.lines.filter fun l => !p l } }

/-- What cores hold for the slots that `p` names: registers, counters and masks at zero (R309). -/
def Cores.clearSlots (k : Cores) (p : Nat → Bool) : Cores :=
  { k with regs := smDrop (fun i => p (i / 32)) k.regs, pcs := smDrop p k.pcs, masks := smDrop p k.masks }

/-- The wipe of a context that has stopped (R261): its trackers and prefetches go first. -/
def State.wipeContext (s : State) (c : Nat) : State :=
  let x := s.ctx c
  let s := { s with memsys := { s.memsys with
    trackers := s.memsys.trackers.filter fun t => t.ctx != c, misses := s.memsys.misses.filter fun h => h.ctx != c } }
  let s := (s.dropLines fun l => l.ctx == c).wipeWhere (ctxOwns x)
  let fp := Rec.footprint x.record
  let cores := s.cores.clearSlots fun k => k % 8 == Rec.slot x.record && bit fp (groupOf (k / 8))
  { s with cores := { cores with barriers := smSet [] cores.barriers c [] } }

/-- The result of a wipe's verification (R262): locations written again, and the rows repaired, each recorded in the NVS and counted
for its stack. -/
def State.wipeReport (s : State) (retried : Nat) (repairs : List HbmRow) : State :=
  repairs.foldl (fun s r =>
    let v := s.get 0x5001 (r.stack % 8 + 1)
    let s := { s with bg := { s.bg with repaired := if s.bg.repaired.contains r then s.bg.repaired else s.bg.repaired ++ [r] } }
    (s.bump 0x8036 0x0F 1).set 0x5001 (r.stack % 8 + 1) (setFld v 7 0 (min 255 (fld v 7 0 + 1)))) (s.bump 0x8036 0x0E retried)

end Sys2Proof.Machine
end

