-- ==== Sys2Proof/Machine/Sched.lean ====
section
/-! DEFINITION. Models, contexts, command lists, admission and merging (R303-R330). -/

namespace Sys2Proof.Machine

/-! ## Refusals of lists (R311, R316, R317, R321, R322) -/

/-- The context a completion of a model's list names: the model's, 0xFF when none. -/
def CList.ctxOf (s : State) (l : CList) : Nat := s.modelCtx l.model

/-- Every command of a list from entry `first` on completes without running. -/
def State.completeRest (s : State) (l : CList) (first : Nat) (st : Status) (detail : Nat) : State :=
  (l.entries.zipIdx.drop first).foldl (fun s e =>
    (l.addrs e.2).foldl (fun s a => s.finalComp a st (l.ctxOf s) detail [] e.1.1 e.1.2) s) s

def State.dropList (s : State) (id : Nat) : State :=
  { s with sched := { s.sched with lists := s.sched.lists.filter fun l => l.id != id } }

/-- The counter of a REFUSED_CAPACITY reason (R322). -/
def reasonCounter (r : Nat) : Nat := if r = 1 then 3 else if r = 2 then 4 else if r = 3 then 5 else 6

/-- A list not admitted is refused with REFUSED_CAPACITY: one count for each list in it. -/
def State.refuseList (s : State) (l : CList) (reason : Nat) : State :=
  ((s.dropList l.id).completeRest l 0 .refusedCapacity reason).bump 0x8038 (reasonCounter reason) l.members.length

def CList.waits (l : CList) : Bool := l.phase == .grouping || l.phase == .awaitLoad || l.phase == .queued

/-- Every list of a model that is queued and not admitted is refused. -/
def State.refuseWaiting (s : State) (m reason : Nat) : State :=
  (s.sched.lists.filter fun l => l.model == m && l.waits).foldl (fun s l => s.refuseList l reason) s

/-- The undispatched rest of a model's dispatching list completes (R311). -/
def State.cutDispatch (s : State) (m reason : Nat) : State :=
  ((s.sched.lists.filter fun l => l.model == m && l.phase == .dispatching).foldl (fun s l =>
    (s.modList l.id fun l => { l with phase := .dispatched }).completeRest l l.next .refusedCapacity reason) s).sweepLists

/-! ## MODEL_CONTROL (R305, R311-R313) -/

/-- A cluster group of the footprint lies on a LOST compute die (R305). -/
def State.footprintLost (s : State) (m : Nat) : Bool :=
  (List.range 4).any fun d => s.dieState d == 5 && fld (Rec.footprint (s.record m)) (d * 10 + 9) (d * 10) != 0

/-- LOAD (R305, R313). -/
def State.loadModel (s : State) (m : Nat) : State :=
  match s.modelState m with
  | 0 | 6 =>
    if !recordOk (s.record m) then (s.setModelState m 6).setReason m 7
    else if s.footprintLost m then (s.setModelState m 6).setReason m 6
    else
      let l := Load.mk m (Rec.cls (s.record m)) s.time
      -- DEEP_IDLE begins its exit (R435)
      let wake := s.get 0x2002 1 == 2
      let s := { s with pkg := { s.pkg with exiting := s.pkg.exiting || wake } }
      { (s.setModelState m 1) with sched := { s.sched with loads := s.sched.loads ++ [l] } }
  | 4 => (s.setModelState m 5).bump 0x803C 0x08 1
  | _ => s

/-- The context of a LOADING or RESIDENT model begins to stop (R311); its waiting lists are refused with `reason`. -/
def State.stopModel (s : State) (m reason : Nat) : State :=
  let c := s.modelCtx m
  let s := (s.setModelState m 4).modCtx c fun x => { x with phase := .stopping }
  ((s.refuseWaiting m reason).cutDispatch m 5).retireIntake c

/-- RETIRE (R305, R311). -/
def State.retireModel (s : State) (m : Nat) : State :=
  match s.modelState m with
  | 1 =>
    let s := (s.setModelState m 0).refuseWaiting m 5
    { s with sched := { s.sched with loads := s.sched.loads.filter fun l => l.model != m } }
  | 2 | 3 => s.stopModel m 5
  | 5 => (s.setModelState m 4).refuseWaiting m 5
  | 6 => s.setModelState m 0
  | _ => s

/-- A load fails under R308: the model stops with reason 0x08. -/
def State.failLoad (s : State) (m : Nat) : State := (s.setReason m 8).stopModel m 8

/-- LOAD_FAILED (R308): no byte of the image for 1 s. -/
def execLoadFailed (m : Nat) (s : State) : Host.Outcome State Fault Refusal :=
  .next (if s.modelState m = 2 ∧ !s.retaining then s.failLoad m else s)

/-- Does a command of the context lack its final completion, or run again for a replay? One that a reset interrupted has had it
(R464). -/
def State.ctxBusy (s : State) (c : Nat) : Bool := s.sched.flights.any fun f => f.ctx == c

/-- What a stopped context leaves: its seed, its step and its map of frozen layers are cleared (R145, R177), and no replay of its
commands is awaited any more. -/
def State.forgetContext (s : State) (c : Nat) : State :=
  let sched := { s.sched with interrupted := s.sched.interrupted.filter (fun f => f.ctx != c),
                              suspects := s.sched.suspects.filter fun f => f.ctx != c }
  ((({ s with sched := sched } : State).set 0x4020 (c + 1) 0).set 0x4320 (c + 1) 0).set 0x4321 (c + 1) 0
    |>.set 0x6003 (c + 1) 0

/-- MODEL_STOP_COMPLETE (R312, R262): after the last final completion the wipe is verified and every resource is released;
a wipe that fails completes the retirement with MEM_UNCORRECTABLE, which the fault log records (log 88), and leaves the partition
unassignable. A queued start then enters the load queue. -/
def State.modelStopComplete (s : State) (m retried : Nat) (repairs : List HbmRow) (ok : Bool) : State :=
  let st := s.modelState m
  let c := s.modelCtx m
  if (st ≠ 4 ∧ st ≠ 5) ∨ 64 ≤ c ∨ s.ctxBusy c then s
  else
    let x := s.ctx c
    let s := ((s.wipeContext c).wipeReport retried repairs).forgetContext c
    let bad := if ok then s.sched.badRanges else s.sched.badRanges ++ [(x.partBase, x.partSize)]
    let loads := if st = 5 then s.sched.loads ++ [Load.mk m (Rec.cls (s.record m)) s.time] else s.sched.loads
    let sched := { s.sched with badRanges := bad, loads := loads, evicting := s.sched.evicting.filter (· != m) }
    let s := { s with sched := sched }
    let s := if ok then s else s.logAdd { kind := 1, ctx := c, status := Status.memUncorrectable.code }
    ((s.modCtx c fun _ => noCtx).setModelCtx m 0xFF).setModelState m (if st = 5 then 1 else 0)

def execModelStopComplete (m retried : Nat) (repairs : List HbmRow) (ok : Bool) (s : State) : Host.Outcome State Fault Refusal :=
  .next (s.modelStopComplete m retried repairs ok)

/-! ## Allocation (R306) -/

/-- Contexts that hold resources, with their numbers. -/
def State.holders (s : State) : List (Nat × Ctx) :=
  (s.sched.ctxs.zipIdx.filter fun p => p.1.phase != .free).map fun p => (p.2, p.1)

/-- The lowest start of a free run of `n` units among `total`, given the ranges taken. -/
def lowestRun (total n : Nat) (taken : List (Nat × Nat)) : Option Nat :=
  let free (b : Nat) : Bool := decide (b + n ≤ total) && taken.all fun t => decide (b + n ≤ t.1) || decide (t.1 + t.2 ≤ b) || t.2 == 0
  -- the lowest free start is 0 or the end of a taken run
  (listMin? ((0 :: taken.map fun t => t.1 + t.2).filter free))

/-- What a load is given. -/
structure Alloc where
  ctx : Nat
  part : Nat
  cache : Nat
  pool : Nat
  deriving DecidableEq, Repr

def partUnit : Nat := 256 * mib

/-- Every resource of R306 for a record, with `hold` the contexts that keep theirs and `bad` the unassignable ranges. -/
def allocate (r : Nat) (hold : List (Nat × Ctx)) (bad : List (Nat × Nat)) : Option Alloc :=
  let fp := Rec.footprint r
  let near := hold.filter fun h => Rec.footprint h.2.record &&& fp != 0
  let ctx := (List.range 64).find? fun c => !hold.any fun h => h.1 == c
  let part := lowestRun 2047 (Rec.partUnits r)
    ((hold.map fun h => (h.2.partBase / partUnit, h.2.partSize / partUnit)) ++ bad.map fun b => (b.1 / partUnit, b.2 / partUnit))
  let cache := if Rec.cacheUnits r = 0 then some 0
    else lowestRun 512 (Rec.cacheUnits r) (hold.map fun h => (h.2.cacheBase, h.2.cacheUnits))
  let pool := lowestRun 256 (Rec.poolUnits r) (near.map fun h => (h.2.poolBase / 4096, h.2.poolSize / 4096))
  match ctx, part, cache, pool with
  | some a, some b, some c, some d => if near.any fun h => Rec.slot h.2.record == Rec.slot r then none else some ⟨a, b, c, d⟩
  | _, _, _, _ => none

/-! ## The load queue (R307) -/

/-- The load at the head: by class, then by time. -/
def State.loadHead (s : State) : Option Load :=
  s.sched.loads.foldl (fun b l => match b with
    | none => some l
    | some x => if l.cls < x.cls then some l else some x) none

/-- May an idle RESIDENT model be evicted: PIN 0, no list queued or dispatching, no command without completion? -/
def State.isVictim (s : State) (h : Nat × Ctx) : Bool :=
  s.modelState h.2.model == 3 && !Rec.pin h.2.record && !s.ctxBusy h.1
    && !s.sched.lists.any fun l => l.model == h.2.model && l.phase != .dispatched

def insertVictim (h : Nat × Ctx) : List (Nat × Ctx) → List (Nat × Ctx)
  | [] => [h]
  | x :: r => if h.2.lastUse < x.2.lastUse || (h.2.lastUse == x.2.lastUse && h.1 < x.1) then h :: x :: r
    else x :: insertVictim h r

/-- The victims by least recent use, then by context number. -/
def State.victims (s : State) : List (Nat × Ctx) := (s.holders.filter s.isVictim).foldl (fun l h => insertVictim h l) []

/-- The shortest prefix of the victims whose retirement makes the allocation possible. -/
def State.evictions (s : State) (r : Nat) : Option (List (Nat × Ctx)) :=
  let v := s.victims
  ((List.range (v.length + 1)).find? fun n =>
    let out := (v.take n).map (·.1)
    (allocate r (s.holders.filter fun h => !out.contains h.1) s.sched.badRanges).isSome).map v.take

/-- The message header of R351. -/
def dataHeader (op ctx model reason tag off len : Nat) : List Byte :=
  leBytes 24 (op + ctx * 2 ^ 8 + model * 2 ^ 16 + reason * 2 ^ 24 + tag * 2 ^ 32 + off * 2 ^ 64 + len * 2 ^ 128)

/-- A load proceeds (R307, R308 step 1): the context is created and the image asked for. -/
def State.startLoad (s : State) (m : Nat) (a : Alloc) : State :=
  let r := s.record m
  let x : Ctx := { noCtx with
    phase := .loading, model := m, record := r, partBase := a.part * partUnit, partSize := Rec.partUnits r * partUnit,
    cacheBase := a.cache, cacheUnits := Rec.cacheUnits r, poolBase := a.pool * 4096, poolSize := Rec.poolUnits r * 4096,
    lastUse := s.time }
  let s := { s with sched := { s.sched with loads := s.sched.loads.filter fun l => l.model != m } }
  let s := ((s.setModelState m 2).setModelCtx m a.ctx).modCtx a.ctx fun _ => x
  let s := ((s.set 0x4320 (a.ctx + 1) 0).set 0x4321 (a.ctx + 1) 0).set 0x4020 (a.ctx + 1) 0
  s.txAppend (Rec.sourceStream r) (dataHeader 5 0 m 0 0 0 (Rec.imageBytes r))

/-- A load decided without room (R307 step 5): the model and its waiting lists are refused. -/
def State.refuseLoad (s : State) (m reason : Nat) : State :=
  let s := { s with sched := { s.sched with loads := s.sched.loads.filter fun l => l.model != m } }
  ((s.setModelState m 6).setReason m reason).refuseWaiting m reason

/-- Loads wait in DEEP_IDLE and during its exit (R435), while one is under way, while victims stop, and while rows that a
traffic generator wrote outside the test rows are unwiped (R260), while a memory-side die is out of service (R476), and
while a refill is sent. -/
def State.loadsWait (s : State) : Bool :=
  !s.inS2 || s.get 0x2002 1 == 2 || s.pkg.exiting || s.sched.evicting != [] || s.memsys.pendingWipe != []
    || s.pairState == 4 || s.dieState 4 != 3 || s.dieState 5 != 3 || s.holders.any fun h => h.2.phase == .loading

/-- LOAD_DECISION (R307). -/
def State.decideLoad (s : State) : State :=
  match s.loadHead with
  | none => s
  | some l =>
    if s.loadsWait then s
    else
      let r := s.record l.model
      match allocate r s.holders s.sched.badRanges with
      | some a => s.startLoad l.model a
      | none =>
        match s.evictions r with
        | some v =>
          let s := v.foldl (fun s h => (s.stopModel h.2.model 5).bump 0x8038 0x09 1) s
          { s with sched := { s.sched with evicting := v.map fun h => h.2.model } }
        | none =>
          let keep := s.holders.filter fun h =>
            !(h.2.phase == .stopping || (s.modelState h.2.model == 3 && !Rec.pin h.2.record))
          if (allocate r keep s.sched.badRanges).isSome then s
          else if (allocate r [] s.sched.badRanges).isSome then s.refuseLoad l.model 3
          else s.refuseLoad l.model 4

def execLoadDecision (s : State) : Host.Outcome State Fault Refusal := .next s.decideLoad

/-- ROW_BYTES of a mergeable list is EXT0 times the element size of ROW_IN, where the model's tables are known; FP4 counts half a byte
(R107, R316). -/
def State.rowBytesOk (s : State) (h : Nat) : Bool :=
  let x := s.ctx (s.modelCtx (ListHdr.model h))
  let t := smGet 0 x.tensors (ListHdr.rowIn h)
  ListHdr.mergeM h == 0 || s.modelState (ListHdr.model h) != 3 || x.phase != .ready
    || ListHdr.rowBytes h * 8 == Ten.ext t 0 * (Ten.fmtD t).bits

/-- Waiting lists whose ROW_BYTES the tables just read do not bear out are refused (R316, log 48). -/
def State.refuseRows (s : State) (m : Nat) : State :=
  (s.sched.lists.filter fun l => l.model == m && l.waits && !s.rowBytesOk l.hdr).foldl
    (fun s l => (s.dropList l.id).completeRest l 0 .descriptorInvalid 0) s

/-- Tables read, pins put in the cache, READY and RESIDENT (R308 steps 3-6). -/
def State.contextReady (s : State) (m : Nat) : State :=
  let c := s.modelCtx m
  let r := (s.ctx c).record
  let t := s.partRead c (Rec.tableOffset r) 262080
  let k := s.partRead c (Rec.tableOffset r + 262080) 4096
  let tensors := (List.range 4095).foldl (fun l i => smSet 0 l i (leAt t (64 * i) 64)) []
  let sets := (List.range 256).foldl (fun l i => smSet 0 l i (leAt k (16 * i) 16)) []
  let pins := (List.range 4).flatMap fun i =>
    (List.range (Rec.pinLen r i * mib / 64)).map fun j => s.partAddr c (Rec.pinOff r i * mib + 64 * j)
  let s := pins.foldl (fun s a => s.insertLine c a false false) s
  let s := s.modCtx c fun x => { x with phase := .ready, tensors := tensors, coresets := sets }
  let awake (l : CList) : CList := { l with phase := .queued }
  let lists := mapIf (fun l => l.model == m && l.phase == .awaitLoad) awake s.sched.lists
  ({ s with sched := { s.sched with lists := lists } }.setModelState m 3).refuseRows m

/-- The image is in place (R308 steps 2-6): its bytes stand from offset 0 on. -/
def State.imageIn (s : State) (m : Nat) (img : List Byte) : State :=
  ((s.partWrite (s.modelCtx m) 0 img).contextReady m).bump 0x8038 0x08 1

/-! ## Admission (R319, R320, R326) -/

/-- May a queued list be admitted? A refill sender admits nothing (R388). -/
def State.admissible (s : State) (l : CList) : Bool :=
  let c := s.modelCtx l.model
  s.modelState l.model == 3 && s.mayDispatch c && l.phase == .queued && fld (s.get 0x3111 1) 7 0 != 4
    && !(s.sched.lists.any fun x => x.model == l.model && x.phase == .dispatching)
    && !((s.sched.lists.takeWhile fun x => x.id != l.id).any fun x => x.model == l.model && x.waits)

/-- Member row `row` written into row `i` of a matrix view, EXT0 elements (R51, R326). -/
def putRow (v : View) (r : Run) (t : Tensor) (i : Nat) (row : List Byte) : Run :=
  if (List.range (Ten.rank t.d)).any fun n => t.ext n == 0 then r
  else (List.range (Ten.ext t.d 0)).foldl (fun r j =>
    putEl v r t (t.idx i j) (leNat row / 2 ^ (j * t.fmt.bits) % 2 ^ t.fmt.bits)) r

/-- The members' rows and their number, written on one core (R326). -/
def putRowsOn (v : View) (r : Run) (l : CList) : Run :=
  let t := openTensor v r (ListHdr.rowIn l.hdr)
  let r := l.members.zipIdx.foldl (fun r p => putRow v r t p.2 p.1.row) r
  putBytes v r (Ten.boundSpace t.d) (Ten.boundAddr t.d + 4 * Ten.rank t.d) (leBytes 4 l.members.length)

/-- The bytes that writing them touches. -/
def putRowsTouches (v : View) (r : Run) (l : CList) : List Touch :=
  let t := openTensor v r (ListHdr.rowIn l.hdr)
  ((List.range l.members.length).flatMap fun i => (List.range (Ten.ext t.d 0)).flatMap fun j => rcTouches v t i j true 0)
    ++ (List.range 4).map fun i => Touch.mk (flat v (Ten.boundSpace t.d) (Ten.boundAddr t.d + 4 * Ten.rank t.d + i)) true 48

/-- The members' rows and their number written before a group dispatches (R326), with what the writes meet (R237, R252): no command
of the list has begun, so they add no status to one (log 59). -/
def State.putRows (s : State) (l : CList) : State :=
  if ListHdr.mergeM l.hdr = 0 then s
  else
    let c := s.modelCtx l.model
    let d := smGet 0 (s.ctx c).tensors (ListHdr.rowIn l.hdr)
    let at' (k : Nat) : Bool := Ten.space d == k || Ten.boundSpace d == k
    (l.rowCores (s.ctx c) (at' 0) (at' 1)).foldl (fun s k =>
      let r : Run := ⟨s.mem, s.ctr⟩
      let touches := putRowsTouches (s.view c k 0) r l
      (({ s with mem := (putRowsOn (s.view c k 0) r l).mem } : State).met c touches s.mem).1) s

/-- A list is admitted: it dispatches from its first entry on. -/
def State.admitNow (s : State) (l : CList) : State :=
  (s.putRows l).modList l.id fun l => { l with phase := .dispatching, admittedAt := s.time }

/-- ADMIT (R319): the first waiting list of a model, or a closed group, once it may be admitted. -/
def execAdmit (m : Nat) (s : State) : Host.Outcome State Fault Refusal :=
  .next (match s.sched.lists.find? fun l => l.model == m && l.waits with
    | some l => if s.admissible l then s.admitNow l else s
    | none => s)

/-- T and e of R320 in ns. -/
def State.meanDispatch (s : State) (m : Nat) : Nat × Nat :=
  let ts := smGet [] s.sched.dispTimes m
  if ts = [] then (10000, 1) else (ts.foldl (· + ·) 0, ts.length)

/-- The DEFERRED detail of a list queued behind its model's lists (R320). -/
def State.deferBehind (s : State) (l : CList) : Nat :=
  let pos := ((s.sched.lists.takeWhile fun x => x.id != l.id).filter fun x => x.model == l.model && x.waits).length
  let (sum, n) := s.meanDispatch l.model
  let e := match s.sched.lists.find? fun x => x.model == l.model && x.phase == .dispatching with
    | some x => (s.time - x.admittedAt) * 40
    | none => 0
  let est := cdiv ((sum - e * n) + pos * sum) (n * 1000)
  min pos 65535 * 2 ^ 16 + min est (2 ^ 32 - 1) * 2 ^ 32

/-- Bytes of partitions that R307 would retire for a model's load now. -/
def State.evictBytes (s : State) (m : Nat) : Nat :=
  let r := s.record m
  if (allocate r s.holders s.sched.badRanges).isSome then 0
  else (((s.evictions r).getD []).map fun h => h.2.partSize).foldl (· + ·) 0

/-- The receive rate of R320 as bytes in so many µs: over the last 10 ms, else 200 GB/s. -/
def State.rxRate (s : State) : Nat × Nat :=
  let recent := s.net.rxLog.filter fun e => decide (s.time ≤ e.1 + 250000)
  let b := (recent.map (·.2)).foldl (· + ·) 0
  if b = 0 then (200000, 1) else (b, 10000)

/-- The DEFERRED detail of a list that awaits a load (R320). -/
def State.deferLoad (s : State) (m : Nat) : Nat :=
  let key (l : Load) : Nat := l.cls
  let mine := s.sched.loads.find? fun l => l.model == m
  let ahead := match mine with
    | some l => (s.sched.loads.filter fun (x : Load) => key x < key l) ++
        (s.sched.loads.takeWhile fun (x : Load) => x.model != m).filter fun (x : Load) => key x == key l
    | none => []
  let loading := (s.holders.filter fun h => h.2.phase == .loading && h.2.model != m).map fun h => h.2.model
  let all : List Nat := loading ++ ahead.map (fun (x : Load) => x.model) ++ [m]
  let z := (all.map s.evictBytes).foldl (· + ·) 0
  let img := (all.map fun x => Rec.imageBytes (s.record x)).foldl (· + ·) 0
  let (b, u) := s.rxRate
  let est := cdiv (4 * z * b + 15000000 * img * u) (15000000 * b)
  1 + min (loading.length + ahead.length) 65535 * 2 ^ 16 + min est (2 ^ 32 - 1) * 2 ^ 32

/-- Bytes of partitions that a refill sender has not had acknowledged (R388). -/
def State.refillLeft (s : State) : Nat :=
  if s.fab.pair.sent then
    (((List.range 6).filter fun p => s.portRole p == 1).flatMap fun p => (s.dv p).bulkHeld.map (·.2.length)).foldl (· + ·) 0
  else ((s.holders.filter fun h => h.2.phase == .ready).map fun h => h.2.partSize).foldl (· + ·) 0

/-- The DEFERRED detail during a refill (R388, R389): KIND 0, the refill's remaining time. -/
def State.deferRefill (s : State) : Nat :=
  let n := max 1 ((List.range 6).filter fun p => s.portRole p == 1 && s.portState p == 2).length
  min (60000 + cdiv s.refillLeft (n * 187500)) (2 ^ 32 - 1) * 2 ^ 32

/-- One DEFERRED for the first command of every member (R320). -/
def State.deferList (s : State) (l : CList) : State :=
  let detail := if s.pairState = 4 then s.deferRefill else if l.phase = .awaitLoad then s.deferLoad l.model else s.deferBehind l
  let s := (l.addrs 0).foldl (fun s a => s.sendComp a .deferred (l.ctxOf s) detail []) s
  s.bump 0x8038 2 l.members.length

/-- A queued list is admitted at once or deferred. -/
def State.admitOrDefer (s : State) (id : Nat) : State :=
  match s.findList id with
  | none => s
  | some l => if s.admissible l then s.admitNow l else s.deferList l

/-- ADMIT_LIMIT (R321): a list that is not admitted is refused with reason 0x01; its model's load goes on. An open group's
limit has not begun (R325). -/
def execAdmitLimit (id : Nat) (s : State) : Host.Outcome State Fault Refusal :=
  .next (match s.findList id with
    | some l => if !s.retaining && (l.phase == .queued || l.phase == .awaitLoad) then s.refuseList l 1 else s
    | none => s)

/-! ## Groups (R324, R325) -/

/-- A group closes and is queued as one list in its opener's place. -/
def State.closeGroup (s : State) (id : Nat) : State :=
  match s.findList id with
  | none => s
  | some l =>
    if l.phase ≠ .grouping then s
    else
      let wait := (l.members.map fun m => (s.time - m.acceptedAt) * 40).foldl (· + ·) 0
      let s := ((s.bump 0x8038 0x0A 1).bump 0x8038 0x0B l.members.length).bump 0x8038 0x0D wait
      let ph := if s.modelState l.model = 3 then ListPhase.queued else .awaitLoad
      (s.modList id fun l => { l with phase := ph, queuedAt := s.time }).admitOrDefer id

/-- MERGE_WINDOW (R325): an open group's window has passed. -/
def execMergeWindow (id : Nat) (s : State) : Host.Outcome State Fault Refusal :=
  .next (if s.retaining then s else s.closeGroup id)

/-- Entries byte-identical except for TAG and TIMEOUT (R324). -/
def sameEntries (a b : List (Nat × Desc)) : Bool :=
  (a.map fun e => (fld e.1 15 0, e.2)) == b.map fun e => (fld e.1 15 0, e.2)

/-! ## COMMAND_LIST (R314-R320, R324, R325) -/

/-- The merge fields and reserved bits of a list header (R314, R316). -/
def listHdrOk (h : Nat) : Bool :=
  fld h 39 32 == 0 && !bit h 65 && decide (1 ≤ ListHdr.count h) && decide (ListHdr.count h ≤ 4096)
    && decide (ListHdr.mergeM h ≤ 32) && decide (ListHdr.model h < 255)
    && (if ListHdr.mergeM h = 0 then ListHdr.mergeKey h == 0 && ListHdr.rowBytes h == 0 && ListHdr.rowIn h == 0xFFF
          && ListHdr.rowOut h == 0xFFF
        else ListHdr.rowIn h != 0xFFF && ListHdr.rowOut h != 0xFFF)

/-- A list as it arrived: its stream, its header, its entries and its row payload. -/
def newList (s : State) (q : ListReq) : CList :=
  { id := s.sched.nextId, model := ListHdr.model q.hdr, hdr := q.hdr, entries := q.entries,
    members := [⟨q.stream, ListHdr.listTag q.hdr, q.entries.map (·.1), q.row, s.time⟩], phase := .queued, next := 0,
    queuedAt := s.time, admittedAt := 0 }

/-- A list's bytes on its stream (R314). -/
def listReqBytes (q : ListReq) : List Byte :=
  leBytes 16 q.hdr ++ q.entries.flatMap (fun e => leBytes 8 e.1 ++ leBytes 64 e.2.toNat) ++ pad8 q.row

def State.pushList (s : State) (l : CList) : State :=
  { s with sched := { s.sched with lists := s.sched.lists ++ [l], nextId := s.sched.nextId + 1 } }

/-- An accepted list is queued, joins or opens a group, or waits for its model's load. -/
def State.acceptList (s : State) (l : CList) : State :=
  let m := ListHdr.mergeM l.hdr
  if m = 0 then
    let l := { l with phase := if s.modelState l.model = 3 then ListPhase.queued else .awaitLoad }
    ((s.pushList l).bump 0x8038 1 1).admitOrDefer l.id
  else
    match s.sched.lists.find? fun g => g.phase == .grouping && g.model == l.model
        && ListHdr.mergeKey g.hdr == ListHdr.mergeKey l.hdr with
    | some g =>
      if fld g.hdr 71 66 == m && fld g.hdr 127 88 == fld l.hdr 127 88 && sameEntries g.entries l.entries then
        let s := (s.modList g.id fun g => { g with members := g.members ++ l.members }).bump 0x8038 1 1
        if g.members.length + 1 = m then s.closeGroup g.id else s
      else (s.completeRest l 0 .descriptorInvalid 0).bump 0x8038 0x0C 1
    | none =>
      let s := (s.pushList { l with phase := .grouping }).bump 0x8038 1 1
      if m = 1 || s.get 0x4042 1 == 0 then s.closeGroup l.id else s

/-- COMMAND_LIST: a whole list arrives on a COMMAND stream: ENTRY_COUNT entries and ROW_BYTES of row payload (R314). -/
def State.commandList (s : State) (q : ListReq) : State :=
  let x := s.strm q.stream
  if !x.hears 1 (listReqBytes q) || q.entries.length != ListHdr.count q.hdr || q.row.length != ListHdr.rowBytes q.hdr then s
  else
    let s := s.consume q.stream (listReqBytes q)
    let l := newList s { q with stream := x.req.comp }
    let m := l.model
    if !listHdrOk q.hdr || !recordOk (s.record m) || !s.rowBytesOk q.hdr then
      s.completeRest l 0 .descriptorInvalid 0
    else if 4096 ≤ ((s.sched.lists.filter (·.waits)).map fun l => l.members.length).foldl (· + ·) 0 then
      (s.completeRest l 0 .refusedCapacity 2).bump 0x8038 4 1
    else if s.modelState m = 3 then s.acceptList l
    else if !ListHdr.onDemand q.hdr then
      (s.completeRest l 0 .refusedNotResident 0).bump 0x8038 7 l.entries.length
    else
      let s := s.loadModel m
      if s.modelState m = 6 then ((s.completeRest l 0 .refusedCapacity (s.modelReason m)).bump 0x8038 1 1).bump 0x8038 6 1
      else s.acceptList l

def execCommandList (q : ListReq) (s : State) : Host.Outcome State Fault Refusal := .next (s.commandList q)

end Sys2Proof.Machine
end

