-- ==== Sys2Proof/Machine/Seats.lean ====
section
/-! DEFINITION. Management answers, seats, semaphores and their contests (R395-R410, R414-R417). -/

namespace Sys2Proof.Machine

/-- An answer (R397): STATUS, REASON, the value, and the object it names. -/
structure Answer where
  status : Status := .done
  reason : Nat := 0
  value : List Byte := []
  index : Nat
  sub : Nat
  deriving DecidableEq, Repr

/-- The bytes of a request on its stream (R395). -/
def requestBytes (q : Req) : List Byte :=
  leBytes 16 (q.op + q.sub * 2 ^ 8 + q.index * 2 ^ 16 + q.tag * 2 ^ 32 + q.length * 2 ^ 64 + q.rsv * 2 ^ 96) ++ pad8 q.value

/-- The bytes of an answer (R397). -/
def answerBytes (op tag : Nat) (a : Answer) : List Byte :=
  leBytes 16 (op + a.sub * 2 ^ 8 + a.index * 2 ^ 16 + tag * 2 ^ 32 + a.status.code * 2 ^ 64 + a.reason * 2 ^ 72
    + a.value.length * 2 ^ 96) ++ pad8 a.value

/-- An answer sent and counted (R417). -/
def State.answer (s : State) (stream op tag : Nat) (a : Answer) : State :=
  let s := (s.txAppend stream (answerBytes op tag a)).bump 0x803B 1 1
  match a.status with
  | .done => s
  | .seatContested => s.bump 0x803B 4 1
  | .seatBusy => s.bump 0x803B 5 1
  | _ => s.bump 0x803B 2 1

/-- A refusal with a reason of R401. -/
def refusal (q : Req) (reason : Nat) : Answer :=
  { status := .descriptorInvalid, reason := reason, index := q.index, sub := q.sub }

/-- The seat that a stream holds: 0 A, 1 B. -/
def State.seatOf (s : State) (stream : Nat) : Option Nat := s.seats.findIdx? fun t => t.bound && t.stream == stream

def State.seat (s : State) (i : Nat) : Seat := nth {} s.seats i

def State.modSeat (s : State) (i : Nat) (f : Seat → Seat) : State := { s with seats := modNth s.seats i f }

/-- SEM_HOLDER of a semaphore: 0 FREE, 1 seat A, 2 seat B. -/
def State.semHolder (s : State) (n : Nat) : Nat := s.get (0x7000 + n) 1

def State.setSem (s : State) (n v : Nat) : State := s.set (0x7000 + n) 1 v

/-- Semaphores that a seat holds. -/
def State.semsHeld (s : State) (seat : Nat) : List Nat := (List.range 256).filter fun n => s.semHolder n == seat + 1

/-- A seat becomes free with every semaphore it holds (R407). `lost`: by a stream's stop or the idle limit, which is
counted and logged. -/
def State.freeSeat (s : State) (seat : Nat) (lost : Bool) : State :=
  let sems := s.semsHeld seat
  let s := sems.foldl (fun s n => s.setSem n 0) s
  let s := s.modSeat seat fun _ => {}
  if lost then
    ((s.bump 0x803B 7 1).bump 0x803B 8 sems.length).logAdd
      { kind := 0x60, detail := leBytes 4 seat ++ leBytes 4 sems.length }
  else s

/-- The seat of a stream that stops is lost (R407). -/
def State.loseSeatOf (s : State) (stream : Nat) : State :=
  match s.seatOf stream with
  | some k => s.freeSeat k true
  | none => s

/-! ## Contests (R410) -/

/-- Does a contested request win, lose, or is there no contest? The first request of a contest decides it for every
party and flips the alternation bit. -/
def State.contest (s : State) (res stream : Nat) (rivals : List Nat) (free : Bool) (winner : Nat) (flip : State → State) :
    State × Option Bool :=
  match s.contests.find? fun c => c.1 == res && c.2.1 == stream with
  | some c => ({ s with contests := s.contests.erase c }, some c.2.2)
  | none =>
    if rivals = [] ∨ !free then (s, none)
    else
      let s := flip s
      ({ s with contests := s.contests ++ rivals.map fun r => (res, r, r == winner) }, some (stream == winner))

/-- The alternation bits: SEM_ALT of a semaphore and SEAT_ALT of a seat. -/
def State.flipObj (s : State) (i k : Nat) : State := s.set i k (1 - s.get i k % 2)

/-- The winner of a seat contest: the lowest stream when the bit is 0, the highest when it is 1. -/
def seatWinner (alt : Nat) (l : List Nat) : Nat := if alt = 0 then (listMin? l).getD 0 else listMax 0 l

/-! ## BIND and UNBIND (R404, R405, R407) -/

/-- A stream bound to a seat. -/
def State.bindSeat (s : State) (seat stream : Nat) (label : List Byte) : State :=
  let x := s.strm stream
  (s.modSeat seat fun _ => { bound := true, stream := stream, port := x.port, addr := x.addr, label := label, lastAt := s.time, limit := s.get 0x3021 1 }).bump
    0x803B 6 1

/-- Check 1 of R401 for BIND: LENGTH 24, SEAT 0-2, bytes 1-7 zero. -/
def bindFormOk (q : Req) : Bool :=
  q.rsv == 0 && q.index == 0 && q.sub == 0 && q.length == 24 && decide (leAt q.value 0 1 ≤ 2) && leAt q.value 1 7 == 0

/-- BIND: its answer (R401, R404, R405, R410). -/
def State.bind (s : State) (q : Req) : State × Answer :=
  let ok : Answer := { index := q.index, sub := q.sub }
  if !bindFormOk q then (s, refusal q 0x0A)
  else if (s.seatOf q.stream).isSome then (s, refusal q 0x0B)
  else
    let label := slice q.value 8 16
    let want := leAt q.value 0 1
    if want = 2 then
      match s.seats.findIdx? fun t => !t.bound with
      | some k => (s.bindSeat k q.stream label, ok)
      | none => (s, { ok with status := .seatBusy })
    else
      let w := seatWinner (s.get 0x3022 (want + 1)) (q.stream :: q.rivals)
      let (s, r) := s.contest (256 + want) q.stream q.rivals (!(s.seat want).bound) w fun s => s.flipObj 0x3022 (want + 1)
      match r with
      | some true => (s.bindSeat want q.stream label, ok)
      | some false => (s, { ok with status := .seatContested })
      | none => if (s.seat want).bound then (s, { ok with status := .seatBusy }) else (s.bindSeat want q.stream label, ok)

/-- UNBIND: its answer. -/
def State.unbind (s : State) (q : Req) : State × Answer :=
  if q.rsv ≠ 0 ∨ q.index ≠ 0 ∨ q.sub ≠ 0 ∨ q.length ≠ 0 then (s, refusal q 0x0A)
  else match s.seatOf q.stream with
    | none => (s, refusal q 0x08)
    | some k => (s.freeSeat k false, { index := q.index, sub := q.sub })

/-! ## A request (R395, R398) -/

/-- OP values that R396 reserves. -/
def opReserved (op : Nat) : Bool := op == 0 || decide (6 < op)

/-- Is a request one of the third step of R398: not an UNBIND, a BIND of one seat, or a write of a semaphore? -/
def thirdStep (q : Req) : Bool :=
  q.op != 6 && !(q.op == 5 && decide (leAt q.value 0 1 < 2)) && !(q.op == 2 && decide (0x7000 ≤ q.index ∧ q.index ≤ 0x70FF))

/-- Is a request ordered among others of its cycle by R91 (R398)? -/
def ordered (q : Req) : Bool := thirdStep q && q.rivals != []

/-- Is it the turn of a request among those of its cycle: by class, then by the pointer (R91, R398)? -/
def State.onTurn (s : State) (q : Req) : Bool :=
  !ordered q || arbWinner s.net.mgmtPtr ((q.stream :: q.rivals).map fun n => (n, (s.strm n).req.cls)) == q.stream

/-- Does a command of an OP take a request: its bytes stand on its MANAGEMENT stream, its LENGTH value bytes among them, and it is
its turn? -/
def State.takes (s : State) (q : Req) (op : Nat) : Bool :=
  (q.op == op || opReserved q.op) && q.value.length == q.length && (s.strm q.stream).hears 0 (requestBytes q) && s.onTurn q

/-- A request taken from its stream: its bytes leave the stream, its seat's idle time begins again with the limit of now (R415),
and the pointer moves past its stream where others asked. -/
def State.heard (s : State) (q : Req) : State :=
  let s := s.consume q.stream (requestBytes q)
  let s := if ordered q then { s with net := { s.net with mgmtPtr := (q.stream + 1) % 16384 } } else s
  match s.seatOf q.stream with
  | some k => s.modSeat k fun t => { t with lastAt := s.time, limit := s.get 0x3021 1 }
  | none => s

/-- A request of a MANAGEMENT stream, carried out and answered; one whose OP is reserved fails check 1 of R401. -/
def State.request (s : State) (q : Req) (op : Nat) (run : State → State × Option Answer) : State :=
  if !s.takes q op then s
  else if opReserved q.op then (s.heard q).answer q.stream q.op q.tag (refusal q 0x0A)
  else
    match run (s.heard q) with
    | (s, some a) => s.answer q.stream op q.tag a
    | (s, none) => s

/-- BIND (R404). -/
def execBind (q : Req) (s : State) : Host.Outcome State Fault Refusal :=
  .next (s.request q 5 fun s => let (s, a) := s.bind q; (s, some a))

/-- UNBIND (R407). -/
def execUnbind (q : Req) (s : State) : Host.Outcome State Fault Refusal :=
  .next (s.request q 6 fun s => let (s, a) := s.unbind q; (s, some a))

/-- IDLE_LOSS (R407, R415): SEAT_IDLE_LIMIT, as the seat's latest request found it, passes with no request from its stream. -/
def execIdleLoss (seat : Nat) (s : State) : Host.Outcome State Fault Refusal :=
  .next (if (s.seat seat).bound && (s.seat seat).limit != 0 then s.freeSeat seat true else s)

end Sys2Proof.Machine
end

