-- ==== Sys2Proof/Machine/Pair.lean ====
section
/-! DEFINITION. The Pas de deux: forming, heartbeats, failover, mirrored writes, refill (R380-R391). -/

namespace Sys2Proof.Machine

/-! ## Forming and leaving (R380, R381) -/

/-- The serial number of the IOD (0x1010:07, R30). -/
def State.iodSerial (s : State) : Nat := fld (nth 0 s.pkg.fuses 6) 191 128

def State.pairControl (s : State) : Nat := s.get 0x3110 1

def State.hasPairPort (s : State) : Bool := (List.range 6).any fun p => s.portRole p == 1

/-- Has this device a context that is not FREE? -/
def State.ctxInUse (s : State) : Bool := s.holders != []

/-- A write of PAIR_CONTROL that R380 refuses. -/
def State.pairRefused (s : State) (v : Nat) : Bool :=
  match s.pairState with
  | 0 => v != 0 && !s.hasPairPort
  | 1 | 4 | 5 => v != 0 && v != s.pairControl
  | _ => false

/-- PAIR_HELLO's body: the serial, the measurement, and PAIR_CONTROL with bit 7 for contexts in use. -/
def helloBody (serial measurement control : Nat) (busy : Bool) : List Byte :=
  beBytes 8 serial ++ leBytes 64 measurement ++ beBytes 1 (control + b2n busy * 128)

def State.sendHello (s : State) : State :=
  s.toPartner { type := 3, body := helloBody s.iodSerial (leNat s.sec.measure) s.pairControl s.ctxInUse }

/-- The check of R381 that fails; 0 when all pass. -/
def State.helloReason (s : State) (serial measurement control : Nat) (busy : Bool) : Nat :=
  let own := s.pairControl
  let free := !s.ctxInUse
  if measurement ≠ leNat s.sec.measure then 2
  else if !((own == 1 && control == 1) || (own == 2 && control == 3) || (own == 3 && control == 2)) then 3
  else if own == 1 && (!free || busy) then 4
  else if (own == 3 && !free) || (control == 3 && busy) then 5
  else if s.fab.pair.fromSolo && own == 1 && s.fab.pair.former == some serial then 6
  else 0

/-- FORMING ends without a pair: OFF, or SOLO when it was entered from there. -/
def State.formFails (s : State) (reason : Nat) : State :=
  (s.setPair (if s.fab.pair.fromSolo then 3 else 0) reason).modPair fun p => { p with hello := none }

/-- The partner's PAIR_HELLO meets a device that is FORMING. -/
def State.meetHello (s : State) : State :=
  match s.fab.pair.hello with
  | some [serial, measurement, control, busy] =>
    if s.pairState ≠ 1 then s
    else
      let r := s.helloReason serial measurement control (busy == 1)
      if r ≠ 0 then s.formFails r
      else
        let s := (s.set 0x3112 1 serial).set 0x3112 2 (if s.iodSerial < serial then 0 else 1)
        let fresh : Pair := {}
        let s := s.modPair fun _ => fresh
        s.setPair (if s.pairControl = 1 then 2 else if s.pairControl = 2 then 4 else 5) 0
  | _ => s

/-- FORMING begins: PAIR_HELLO goes to the partner, and one that came before is met. -/
def State.startForming (s : State) (fromSolo : Bool) : State :=
  (((s.setPair 1 0).modPair fun p => { p with fromSolo := fromSolo }).sendHello).meetHello

/-- A mirrored write takes effect on this device (R386). -/
def State.applyWrite (s : State) (index sub : Nat) (value : List Byte) : State :=
  let s := s.bump 0x803A 0x0A 1
  if index = 0x4110 then s.writeIntakeCfg (sub - 1) (leNat value) else s.set index sub (leNat value)

/-- The seat's acknowledgement of a mirrored write (R386). -/
def State.mirrorAnswer (s : State) (m : Mirror) : State :=
  match m.stream with
  | none => s
  | some n =>
    if (s.strm n).isOpen 0 then s.answer n 2 m.tag { index := m.index, sub := m.sub } else s

def State.member (s : State) : Nat := s.get 0x3112 2

/-- Pending mirrored writes end here: member 1's take effect locally; every seat is answered (R383). -/
def State.mirrorFlush (s : State) : State :=
  let q := s.fab.pair.mirrorQ
  let local_ := s.member == 1
  let s := s.modPair fun p => { p with mirrorQ := [] }
  q.foldl (fun s m => (if local_ then s.applyWrite m.index m.sub m.value else s).mirrorAnswer m) s

/-- The device goes on alone (R383, R384): waiting slabs are committed unpaired, mirrored writes answered, the journal
drained. -/
def State.goSolo (s : State) : State :=
  let s := s.setPair 3 0
  let partner := s.get 0x3112 1
  let s := s.modPair fun p => { p with former := some partner, localClaims := [], partnerClaims := [] }
  s.mirrorFlush.planerUnpair.drainJournal

/-- A refill is aborted (R388): the donor goes on in SOLO, the receiver is OFF with every context retired. -/
def State.refillAbort (s : State) (reason : Nat) : State :=
  let s := s.bump 0x803A 0x0D 1
  let s := s.modPair fun p => { p with refillFailed := [], sent := false }
  if s.pairState = 4 then
    let partner := s.get 0x3112 1
    (s.setPair 3 reason).modPair fun p => { p with former := some partner }
  else
    let s := s.setPair 0 reason
    s.holders.foldl (fun s h => s.retireModel h.2.model) s

/-- The effect of a PAIR_CONTROL write that R380 accepts. -/
def State.pairWrite (s : State) (v : Nat) : State :=
  let st := s.pairState
  let s1 := s.set 0x3110 1 v
  if v = 0 then
    match st with
    | 1 => (s1.setPair (if s.fab.pair.fromSolo then 3 else 0) 0).modPair fun p => { p with hello := none }
    | 4 | 5 => s1.refillAbort 0
    | 2 => (((s1.toPartner { type := 4 }).setPair 6 0).planerUnpair)
    | 3 => (s1.toPartner { type := 4 }).setPair 6 0
    | 7 => s1.setPair 6 0
    | _ => s1
  else
    match st with
    | 0 => s1.startForming false
    | 3 => s1.startForming true
    | 6 => (s1.setPair 7 0).bump 0x803C 8 1
    | _ => s1

/-- PAIR_HELLO (R381, R384). It is kept until this device forms; a device in SOLO without DONATE refuses its former
partner's, which is not kept. -/
def execPairHello (serial measurement control : Nat) (busy : Bool) (s : State) : Host.Outcome State Fault Refusal :=
  .next (
    s.onMsg 1 { type := 3, body := helloBody serial measurement control busy } fun s =>
    if s.pairState = 2 ∨ s.pairState = 4 ∨ s.pairState = 5 then s
    else
      let refused := s.pairState == 3 && s.fab.pair.former == some serial && s.pairControl != 2
      if refused then s.setPair 3 6
      else (s.modPair fun p => { p with hello := some [serial, measurement, control, b2n busy] }).meetHello)

/-- PAIR_HELLO_TIMEOUT (R380): no valid PAIR_HELLO within 1 s. -/
def execPairHelloTimeout (s : State) : Host.Outcome State Fault Refusal :=
  .next (if s.pairState = 1 then s.formFails 1 else s)

/-- PAIR_LEAVE (R380): the partner leaves. -/
def execPairLeave (s : State) : Host.Outcome State Fault Refusal :=
  .next (
    s.onMsg 1 { type := 4 } fun s =>
    let s := s.modPair fun p => { p with hello := none }
    if s.paired then s.goSolo else if s.pairState = 6 ∨ s.pairState = 7 then s.mirrorFlush else s)

/-- PAIR_STOP_COMPLETE (R380): PAIR_LEAVE sent and the mirror queue empty. -/
def execPairStopComplete (s : State) : Host.Outcome State Fault Refusal :=
  .next (if s.fab.pair.mirrorQ ≠ [] then s
    else
      let fresh : Pair := { hello := s.fab.pair.hello, former := s.fab.pair.former }
      match s.pairState with
      | 6 => (s.setPair 0 0).modPair fun _ => fresh
      | 7 => (s.modPair fun _ => fresh).startForming false
      | _ => s)

/-! ## Heartbeats and failover (R382, R383) -/

/-- HEARTBEAT_SEND: every 10 µs in PAIRED. -/
def execHeartbeatSend (s : State) : Host.Outcome State Fault Refusal :=
  .next (if !s.paired then s
    else
      let n := s.fab.pair.heartbeats
      (s.modPair fun p => { p with heartbeats := (n + 1) % 2 ^ 32 }).toPartner { type := 1, id := n })

/-- HEARTBEAT: answered with the same count. -/
def execHeartbeat (n : Nat) (s : State) : Host.Outcome State Fault Refusal :=
  .next (
    s.onMsg 1 { type := 1, id := n } fun s =>
    if s.paired then s.toPartner { type := 2, id := n } else s)

/-- HEARTBEAT_ACK: a flit from the partner, which the 200 µs of R382 count from. -/
def execHeartbeatAck (n : Nat) (s : State) : Host.Outcome State Fault Refusal := .next (s.takeMsg 1 { type := 2, id := n })

/-- FAILOVER (R382, R383, R388): 200 µs with no flit from the partner. -/
def execFailover (s : State) : Host.Outcome State Fault Refusal :=
  .next (if !(s.pairState == 2 || s.pairState == 4 || s.pairState == 5) then s
    else
      let s := (s.bump 0x803A 8 1).logAdd { kind := 0x50, detail := leBytes 8 (s.get 0x3112 1) }
      if s.pairState = 2 then s.goSolo else s.refillAbort 7)

/-! ## Mirrored writes (R385, R386) -/

def mirrorBody (index sub : Nat) (value : List Byte) : List Byte := beBytes 2 index ++ beBytes 1 sub ++ value

/-- Member 0 gives a write the next mirror sequence number, applies it and sends MIRROR_APPLY. -/
def State.mirrorSequence (s : State) (index sub : Nat) (value : List Byte) (stream : Option Nat) (tag : Nat) : State :=
  let seq := s.fab.pair.nextMirror
  let s := (s.modPair fun p => { p with nextMirror := (seq + 1) % 2 ^ 32 }).applyWrite index sub value
  let (s, msg) := s.sendMsg 1 { type := 6, id := seq, body := mirrorBody index sub value }
  s.modPair fun p => { p with mirrorQ := p.mirrorQ ++ [⟨seq, index, sub, value, stream, tag, msg⟩] }

/-- A write that this device accepted for a seat while PAIRED; its answer waits. -/
def State.mirrorSubmit (s : State) (index sub : Nat) (value : List Byte) (stream tag : Nat) : State :=
  if s.member = 0 then s.mirrorSequence index sub value (some stream) tag
  else
    let s := s.toPartner { type := 5, body := mirrorBody index sub value }
    s.modPair fun p => { p with mirrorQ := p.mirrorQ ++ [⟨0, index, sub, value, some stream, tag, none⟩] }

/-- MIRROR_WRITE at member 0. -/
def execMirrorWrite (index sub : Nat) (value : List Byte) (s : State) : Host.Outcome State Fault Refusal :=
  .next (
    s.onMsg 1 { type := 5, body := mirrorBody index sub value } fun s =>
    if s.paired && s.member == 0 && mirrored index then s.mirrorSequence index sub value none 0 else s)

/-- MIRROR_APPLY at member 1: in sequence order, then the seat that wrote it is answered. -/
def execMirrorApply (seq index sub : Nat) (value : List Byte) (s : State) : Host.Outcome State Fault Refusal :=
  .next (
    s.onMsg 1 { type := 6, id := seq, body := mirrorBody index sub value } fun s =>
    let live := s.paired || s.pairState == 6 || s.pairState == 7
    if !live || s.member != 1 || seq != s.fab.pair.appliedMirror || !mirrored index then s
    else
      let s := (s.modPair fun p => { p with appliedMirror := (seq + 1) % 2 ^ 32 }).applyWrite index sub value
      match s.fab.pair.mirrorQ.find? fun m => m.index == index && m.sub == sub && m.value == value with
      | none => s
      | some m => (s.modPair fun p => { p with mirrorQ := p.mirrorQ.erase m }).mirrorAnswer m)

/-- Member 0's writes whose MIRROR_APPLY is wholly acknowledged have been applied by both devices. -/
def State.mirrorAcked (s : State) : State :=
  let held := (s.roleCtl 1).held
  let out (m : Mirror) : Bool := match m.msg with
    | some n => !held.any fun h => h.1 == n
    | none => false
  let done := s.fab.pair.mirrorQ.filter out
  let s := s.modPair fun p => { p with mirrorQ := p.mirrorQ.filter fun m => !out m }
  done.foldl State.mirrorAnswer s

/-- DV_FLIT (R359-R363). -/
def execDvFlit (p : Nat) (bs : List Byte) (s : State) : Host.Outcome State Fault Refusal := .next (s.dvFlit p bs).mirrorAcked

/-- BATCH_CLAIM (R387): the partner's claim, or the CRC of its batch's mask. -/
def execBatchClaim (e : List Nat) (s : State) : Host.Outcome State Fault Refusal :=
  .next (
    s.onMsg 1 { type := 7, body := claimBody e } fun s =>
    if s.paired then s.meetClaim false e else s)

/-! ## Refill (R388) -/

def State.readyCtxs (s : State) : List (Nat × Ctx) := s.holders.filter fun h => h.2.phase == .ready

/-- What the donor's REFILL_BEGIN carries. -/
def State.refillOf (s : State) : Refill :=
  let keys := (s.obj.map (·.1)).filter fun k => mirrored (k / 256)
  { objs := keys.map fun k => (k / 256, k % 256, s.get (k / 256) (k % 256))
    tables := (s.codec.slots.filter fun t => t.phase == .active).map fun t => (t.gen, t.image)
    cursors := (s.intake.streams.filter fun e => s.intakeState e.1 == 1).map fun e => (e.1, e.2.arrived, e.2.claim)
    ctxs := s.readyCtxs.map fun h =>
      { ctx := h.1, model := h.2.model, record := h.2.record, part := (h.2.partBase, h.2.partSize),
        cache := (h.2.cacheBase, h.2.cacheUnits), pool := (h.2.poolBase, h.2.poolSize),
        jobs := (s.plan.known.filter fun k => k.1 == h.1).map fun k => (k.2.1, k.2.2) } }

/-- The bytes of REFILL_BEGIN, in the order of the structure (the layout is the model's, log 63): its fields big-endian; object
values, records, descriptors and table images as they stand in memory (R8). -/
def refillBytes (r : Refill) : List Byte :=
  beBytes 4 r.objs.length ++ (r.objs.flatMap fun o => beBytes 2 o.1 ++ beBytes 1 o.2.1 ++ leBytes 64 o.2.2)
    ++ beBytes 4 r.tables.length ++ (r.tables.flatMap fun t => beBytes 4 t.1 ++ beBytes 4 t.2.length ++ t.2)
    ++ beBytes 4 r.cursors.length ++ (r.cursors.flatMap fun c => beBytes 4 c.1 ++ beBytes 8 c.2.1 ++ beBytes 8 c.2.2)
    ++ beBytes 4 r.ctxs.length ++ r.ctxs.flatMap fun x =>
      beBytes 1 x.ctx ++ beBytes 1 x.model ++ leBytes 64 x.record ++ beBytes 8 x.part.1 ++ beBytes 8 x.part.2
        ++ beBytes 4 x.cache.1 ++ beBytes 4 x.cache.2 ++ beBytes 8 x.pool.1 ++ beBytes 8 x.pool.2
        ++ beBytes 4 x.jobs.length ++ x.jobs.flatMap fun j => beBytes 4 j.1 ++ leBytes 64 j.2.toNat

/-- CRC-64 of the digest tables of every completed job, by context and job number. -/
def State.digestCrc (s : State) : Nat :=
  let jobs := s.readyCtxs.flatMap fun h => (List.range 4096).filterMap fun n => (s.knownJob h.1 n).map fun d => (h.1, d)
  crc64 (jobs.flatMap fun j => s.partRead j.1 (Pj.digest j.2) (16 * Pj.slabs j.2))

/-- The 64 KiB segments of a context's partition, by their offsets. -/
def refillSegs (size : Nat) : List Nat := (List.range (size / 65536)).map (· * 65536)

/-- REFILL_DATA: a segment and the CRC-64 of its bytes, little-endian (R388). -/
def refillMsg (off : Nat) (bs : List Byte) (crc : Nat) : Msg :=
  { type := 0x31, offset := off % 2 ^ 32, body := bs ++ leBytes 8 crc }

/-- DONOR_QUIESCED (R388 steps 1, 2, 4, 5): nothing dispatched is left, so the whole refill is sent. -/
def State.donorQuiesced (s : State) : State :=
  if s.pairState ≠ 4 ∨ s.fab.pair.sent ∨ s.sched.flights ≠ [] ∨ s.sched.interrupted ≠ [] ∨ s.sched.suspects ≠ []
      ∨ s.plan.job.isSome ∨ s.holders.any (fun h => h.2.phase != .ready)
      ∨ s.sched.lists.any (fun l => l.phase == .dispatching) then s
  else
    let s := s.modPair fun p => { p with sent := true }
    let s := s.toPartner { type := 0x30, body := refillBytes s.refillOf }
    let s := s.readyCtxs.foldl (fun s h => (refillSegs h.2.partSize).foldl (fun s o =>
      let bs := s.partRead h.1 o 65536
      let s := (s.met h.1 (s.partTouch h.1 o 65536 false 0) s.mem).1
      (s.toPartner (refillMsg o bs (crc64 bs))).bump 0x803A 0x0B 65536) s) s
    s.toPartner { type := 0x32, body := beBytes 8 s.digestCrc }

def execDonorQuiesced (s : State) : Host.Outcome State Fault Refusal := .next s.donorQuiesced

/-- Can the receiver create a context with the donor's number and ranges (R388 step 3)? -/
def State.canCreate (s : State) (x : RefillCtx) : Bool :=
  let fp := Rec.footprint x.record
  let lost := (List.range 4).any fun d => s.dieState d == 5 && fld fp (d * 10 + 9) (d * 10) != 0
  recordOk x.record && decide (x.ctx < 64) && decide (x.model < 255) && !lost
    && s.sched.badRanges.all fun b => decide (b.1 + b.2 ≤ x.part.1) || decide (x.part.1 + x.part.2 ≤ b.1)

/-- REFILL_BEGIN (R388 step 3). -/
def State.refillBegin (s : State) (r : Refill) : State :=
  s.onMsg 1 { type := 0x30, body := refillBytes r } fun s =>
  if s.pairState ≠ 5 then s
  else if !r.ctxs.all s.canCreate then s.refillAbort 5
  else
    let s := { s with obj := smDrop (fun k => mirrored (k / 256)) s.obj }
    let s := (r.objs.filter fun o => mirrored o.1).foldl (fun s o => s.set o.1 o.2.1 o.2.2) s
    let slots := (List.range 4).map fun i => match r.tables[i]? with
      | some t => { phase := .active, gen := t.1, image := t.2 }
      | none => {}
    let s := s.setSlots slots
    let s := r.ctxs.foldl (fun s x =>
      let c : Ctx := { noCtx with
        phase := .loading, model := x.model, record := x.record, partBase := x.part.1, partSize := x.part.2,
        cacheBase := x.cache.1, cacheUnits := x.cache.2, poolBase := x.pool.1, poolSize := x.pool.2, lastUse := s.time }
      ((s.setModelState x.model 2).setModelCtx x.model x.ctx).modCtx x.ctx fun _ => c) s
    let known := r.ctxs.flatMap fun x => x.jobs.map fun j => (x.ctx, j.1, j.2)
    let streams := r.cursors.foldl (fun l c =>
      smSet ({} : IStream) l c.1 { arrived := c.2.1, claim := c.2.2 }) s.intake.streams
    let s := s.modPair fun p => { p with refillStreams := r.cursors.map (·.1) }
    { s with intake := { s.intake with streams := streams }, plan := { s.plan with known := known } }

def execRefillBegin (r : Refill) (s : State) : Host.Outcome State Fault Refusal := .next (s.refillBegin r)

/-- REFILL_DATA (R388 step 4): stored when its CRC-64 holds; a second failure of one segment aborts the refill. -/
def execRefillData (c off : Nat) (bs : List Byte) (crc : Nat) (s : State) : Host.Outcome State Fault Refusal :=
  .next (
    s.onMsg 1 (refillMsg off bs crc) fun s =>
    if s.pairState ≠ 5 ∨ (s.ctx c).phase ≠ .loading then s
    else if crc64 bs = crc then ((s.partWrite c off bs).met c (s.partTouch c off bs.length true 0) s.mem).1
    else if s.fab.pair.refillFailed.contains (c, off) then s.refillAbort 7
    else s.modPair fun p => { p with refillFailed := p.refillFailed ++ [(c, off)] })

/-- The pair is complete after a refill. -/
def State.refillDone (s : State) : State :=
  let fresh : Pair := {}
  ((s.setPair 2 0).modPair fun _ => fresh).bump 0x803A 0x0C 1

/-- REFILL_END (R388 step 5): the receiver checks the digest tables, starts its intake streams at the donor's cursors and
answers; the donor enters PAIRED on the answer. -/
def State.refillEnd (s : State) (crc : Nat) : State :=
  s.onMsg 1 { type := 0x32, body := beBytes 8 crc } fun s =>
  if s.pairState = 4 then (if s.fab.pair.sent then s.refillDone else s)
  else if s.pairState ≠ 5 then s
  else
    let s := s.holders.foldl (fun s h => s.contextReady h.2.model) s
    if s.digestCrc ≠ crc then s.refillAbort 7
    else
      let s := s.fab.pair.refillStreams.foldl (fun s k =>
        (s.setIntakeState k 1 0).setIstream k { (s.istream k) with kind := Ic.kind (s.intakeCfg k) }) s
      (s.toPartner { type := 0x32, body := beBytes 8 crc }).refillDone

def execRefillEnd (crc : Nat) (s : State) : Host.Outcome State Fault Refusal := .next (s.refillEnd crc)

end Sys2Proof.Machine
end

