-- ==== Sys2Proof/Machine/Coll.lean ====
section
/-! DEFINITION. Collectives of the fabric engine: ALL_REDUCE, BROADCAST, ALL_GATHER (R366-R379). -/

namespace Sys2Proof.Machine

namespace Co
/-! Fields of R369. -/
def op (d : Nat) : Nat := fld d 99 96
def gen (d : Nat) : Nat := fld d 104 101
def coding (d : Nat) : Nat := fld d 106 105
def compress (d : Nat) : Bool := bit d 107
def root (d : Nat) : Nat := fld d 119 108
def id (d : Nat) : Nat := fld d 151 120
end Co

/-! ## The topology (R366, R367) -/

def State.topo (s : State) : Nat := s.get 0x3102 1

/-- KIND, SIZE and RANK of TOPOLOGY. -/
def topoKind (t : Nat) : Nat := fld t 31 28
def topoSize (t : Nat) : Nat := fld t 27 16
def topoRank (t : Nat) : Nat := fld t 15 4

/-- Is a TOPOLOGY value one that R367 allows? -/
def topoOk (t : Nat) : Bool :=
  let k := topoKind t
  let p := topoSize t
  fld t 3 0 == 0 && decide (k ≤ 3) && (k == 0 || (decide (1 ≤ p) && decide (topoRank t < p) && (k != 2 || decide (2 ≤ p))))

/-- A TOPOLOGY write is refused while a collective is queued or running; it resets NEXT_COLL_ID. -/
def State.topoRefused (s : State) : Bool := !s.noCollective

def State.writeTopo (s : State) (v : Nat) : State := (s.set 0x3102 1 v).set 0x3102 2 0

def State.nextColl (s : State) : Nat := s.get 0x3102 2

def State.hasRole (s : State) (role : Nat) : Bool := (List.range 6).any fun p => s.portRole p == role

/-- The roles CHILD0-CHILD4 that have a port. -/
def State.children (s : State) : List Nat := [5, 6, 7, 8, 9].filter s.hasRole

/-- The neighbours that a topology requires: 2 NEXT, 3 PREV, 4 PARENT, 5-9 CHILDn. -/
def State.neighbours (s : State) (t : Nat) : List Nat :=
  let r := topoRank t
  let p := topoSize t
  match topoKind t with
  | 1 => (if r + 1 < p then [2] else []) ++ if 0 < r then [3] else []
  | 2 => [2, 3]
  | 3 => (if 0 < r then [4] else []) ++ s.children
  | _ => []

/-- Every neighbour that the topology requires has a port of its role (R371); a root of several devices has a child. -/
def State.topoReady (s : State) (t : Nat) : Bool :=
  topoKind t != 0 && (s.neighbours t).all s.hasRole
    && (topoKind t != 3 || topoRank t != 0 || topoSize t == 1 || s.children != [])

/-! ## Operands (R371) -/

/-- Bytes of a tensor's elements; two FP4 elements share one. -/
def tenBytes (t : Tensor) : Nat := if t.fmt = .fp4 then cdiv (volume t.exts) 2 else volume t.exts * t.fmt.bytes

def tenByteAddr (v : View) (t : Tensor) (j : Nat) : Nat :=
  if t.fmt = .fp4 then flat v (Ten.space t.d) (elemOff t (unlinear t.exts (2 * j))).1 else tensorByteAddr v t j

def scaleAddrOf (v : View) (t : Tensor) (j : Nat) : Nat := flat v (Ten.scaleSpace t.d) (Ten.scaleAddr t.d + t.base + j)

/-- The view through which the fabric engine resolves a context's tensors (log 22). -/
def State.collView (s : State) (c : Nat) : View := s.view c (s.homeCore c) 0

def State.collTensor (s : State) (c num : Nat) : Tensor := openTensor (s.collView c) ⟨s.mem, s.ctr⟩ num

/-- The tensors of R371. -/
def State.collTensorsOk (s : State) (c d : Nat) : Bool :=
  let a := s.collTensor c (Cmd.ta d)
  let t := s.collTensor c (Cmd.tc d)
  let p := topoSize s.topo
  match Co.op d with
  | 1 => [a, t].all (fun x => Ten.rank x.d == 0 && x.fmt == .e5m2 && Ten.scaled x.d) && volume a.exts == volume t.exts
  | 2 => topoRank s.topo != Co.root d || (a.fmt == t.fmt && tenBytes a == tenBytes t)
  | 3 => a.fmt == t.fmt && tenBytes t == p * tenBytes a
  | _ => false

/-- The dispatch checks of a collective (R136 apart from core sets, R369-R371). -/
def State.collOk (s : State) (c d : Nat) : Bool :=
  let tensors := (s.ctx c).tensors
  let a := smGet 0 tensors (Cmd.ta d)
  let t := smGet 0 tensors (Cmd.tc d)
  zeroAt d [(511, 152), (100, 100), (79, 56)] && Cmd.tb d == noTensor && Cmd.td d == noTensor && Cmd.ta d != noTensor
    && Cmd.tc d != noTensor && tensorOk a && tensorOk t && Ten.space a == 2 && Ten.space t == 2 && inScOk a && outScOk t
    && (if Co.compress d then Co.coding d != 0 || Co.gen d == 0 else Co.coding d == 0 && Co.gen d == 0)
    && (if Co.op d = 2 then decide (Co.root d < topoSize s.topo) else Co.root d == 0)
    && (Co.coding d == 0 || (s.activeSlot (Co.gen d)).isSome)
    && s.topoReady s.topo && s.collTensorsOk c d && decide (s.nextColl ≤ Co.id d)

/-! ## Messages -/

/-- One BULK segment sent: as it is, or as a codec stream (R376). -/
def State.collSend (s : State) (x : Coll) (role type index off : Nat) (raw : List Byte) : State :=
  match s.flight x.flight with
  | none => s
  | some f =>
    let d := f.desc.toNat
    if Co.compress d then
      let img := ((s.boundTable x.flight).map (·.2)).getD []
      let q := squeeze (Co.coding d) (if type = 0x22 then 2 else 0) (Co.gen d) img raw
      let s := (((s.bump 0x8035 1 q.rawBlocks).bump 0x8035 2 q.codedBlocks).bump 0x8035 3 raw.length).bump 0x8035 4 q.bytes.length
      (s.bump 0x8035 0x0B q.absent).post role { type := type, flags := 1, index := index, id := x.id, offset := off, body := q.bytes }
    else s.post role { type := type, index := index, id := x.id, offset := off, body := raw }

/-- The 64 KiB segments of a chunk of `n` bytes: offset and length. -/
def segsOf (n : Nat) : List (Nat × Nat) := (List.range (cdiv n 65536)).map fun i => (65536 * i, min 65536 (n - 65536 * i))

/-- A whole chunk sent to one neighbour. -/
def State.collSendAll (s : State) (x : Coll) (role type index : Nat) (raw : List Byte) : State :=
  (segsOf raw.length).foldl (fun s g => s.collSend x role type index g.1 (slice raw g.1 g.2)) s

def State.modColl (s : State) (f : Coll → Coll) : State := { s with fab := { s.fab with coll := s.fab.coll.map f } }

/-- The collective ends with these statuses. -/
def State.collStop (s : State) (st : List Status) : State := s.modColl fun x => { x with ended := some (x.ended.getD [] ++ st) }

/-- COLL_ABORT to neighbours other than `but`; its reason byte is not given (log 5). -/
def State.collAbort (s : State) (but : Nat) : State :=
  match s.fab.coll with
  | none => s
  | some x =>
    ((s.neighbours s.topo).filter (· != but)).foldl (fun s r =>
      let (s, b) := s.fresh 8
      s.post r { type := 0x24, id := x.id, body := leBytes 1 b }) s

/-! ## Chunks and paths (R374, R375) -/

/-- Blocks of an all-reduce. -/
def Coll.blocks (x : Coll) : Nat := cdiv x.n 32

/-- Chunks: P on a ring all-reduce and on an ALL_GATHER, else one. -/
def Coll.chunks (x : Coll) : Nat := if x.op = 3 ∨ (x.op = 1 ∧ x.kind = 2) then x.size else 1

/-- First block and block count of an all-reduce chunk. -/
def Coll.span (x : Coll) (c : Nat) : Nat × Nat :=
  if x.kind = 2 then
    let b := c * x.blocks / x.size
    (b, (c + 1) * x.blocks / x.size - b)
  else (0, x.blocks)

/-- Elements of a run of blocks. -/
def Coll.elems (x : Coll) (b n : Nat) : Nat := min (32 * n) (x.n - 32 * b)

/-- Raw bytes of a chunk in messages of one type. -/
def Coll.chunkBytes (x : Coll) (type c : Nat) : Nat :=
  if x.op ≠ 1 then x.n
  else
    let (b, n) := x.span c
    if type = 0x21 then n else if type = 0x22 then 4 * x.elems b n else x.elems b n + n

/-- Neighbours that a chunk's partial results come from, the one they go to (none at the owner), and those the result
goes to. -/
structure Path where
  froms : List Nat
  onward : Option Nat
  downs : List Nat
  deriving DecidableEq, Repr

def State.path (s : State) (x : Coll) (c : Nat) : Path :=
  let r := x.rank
  let p := x.size
  match x.kind with
  | 2 =>
    let owner := (c + 1) % p
    { froms := if r = (c + 2) % p then [] else [3], onward := if r = owner then none else some 2,
      downs := if (r + 1) % p = owner then [] else [2] }
  | 1 =>
    { froms := if r = 0 then [] else [3], onward := if r + 1 = p then none else some 2, downs := if r = 0 then [] else [3] }
  | _ => { froms := s.children, onward := if r = 0 then none else some 4, downs := s.children }

/-- Where BROADCAST and ALL_GATHER data goes on to: `from_` is the neighbour it came from, 0 for this device's own. -/
def State.spread (s : State) (x : Coll) (from_ origin : Nat) : List Nat :=
  let r := x.rank
  let p := x.size
  match x.kind with
  | 2 => if (r + 1) % p = origin then [] else [2]
  | 1 => (if from_ != 2 && r + 1 < p then [2] else []) ++ if from_ != 3 && 0 < r then [3] else []
  | _ =>
    let kids := s.children
    if x.op = 2 then
      if from_ = 4 ∨ r = 0 then kids else [4]
    else (if from_ != 4 && 0 < r then [4] else []) ++ kids.filter (· != from_)

/-! ## The data of a collective -/

/-- What accesses of the collective meet; an uncorrectable one is noted for its completion. -/
def State.collMet (s : State) (x : Coll) (t : List Touch) (before : List Host.Cell) : State :=
  let ((s, st), seen) := s.metFrom x.ctx t before x.seen
  s.modColl fun y => { y with seen := seen, got := if st = [] then y.got else y.got ++ [[2]] }

/-- Bytes written at flat addresses of TC, with the effects of the writes. -/
def State.collPut (s : State) (x : Coll) (ws : List (Nat × Byte)) : State :=
  let before := s.mem
  let s := { s with mem := ws.foldl (fun m (w : Nat × Byte) => memWr m w.1 w.2) s.mem }
  s.collMet x (ws.map fun w => ⟨w.1, true, 2⟩) before

/-- Where a DATA byte of a chunk belongs in TC: an all-reduce chunk is its elements, then its block scales. -/
def State.collAddr (s : State) (x : Coll) (c j : Nat) : Nat :=
  let v := s.collView x.ctx
  match s.flight x.flight with
  | none => 0
  | some f =>
    let t := s.collTensor x.ctx (Cmd.tc f.desc.toNat)
    if x.op = 1 then
      let (b, n) := x.span c
      let e := x.elems b n
      if j < e then tenByteAddr v t (32 * b + j) else scaleAddrOf v t (b + (j - e))
    else if x.op = 3 then tenByteAddr v t (c * x.n + j)
    else tenByteAddr v t j

/-- DATA bytes of a chunk from `off` on written to TC, and noted as in place. -/
def State.collData (s : State) (x : Coll) (c off : Nat) (raw : List Byte) : State :=
  let s := s.collPut x (raw.zipIdx.map fun p => (s.collAddr x c (off + p.2), p.1))
  s.modColl fun y => { y with got := y.got ++ [[1, c, off]] }

/-- The sidecar of a BF16 TC, over its run-time view, before the collective completes (R60, R113). -/
def State.collSidecar (s : State) (x : Coll) : State :=
  match s.flight x.flight with
  | none => s
  | some f =>
    let v := s.collView x.ctx
    let r : Run := ⟨s.mem, s.ctr⟩
    let t := s.collTensor x.ctx (Cmd.tc f.desc.toNat)
    if t.fmt ≠ .bf16 then s
    else
      let els := (List.range (volume t.exts)).map fun l =>
        let ix := unlinear t.exts l
        (viewRow t.exts ix, nth 0 ix 0, leNat ((elemAddrs v t ix).map (memRd r.mem)))
      let mx := sidecarMax t.rows t.cols els
      s.collPut x ((sidecarBytes mx.1 mx.2).zipIdx.map fun p => ((sideTouch v t true 2 p.2).addr, p.1))

/-- Is every DATA segment of every chunk in place? -/
def Coll.complete (x : Coll) : Bool :=
  (List.range x.chunks).all fun c => (segsOf (x.chunkBytes 0x23 c)).all fun g => x.got.contains [1, c, g.1]

def putRange (l : List Nat) (at_ : Nat) (vs : List Nat) : List Nat := l.take at_ ++ vs ++ l.drop (at_ + vs.length)

def getRange (l : List Nat) (at_ n : Nat) : List Nat := (l.drop at_).take n

/-- `L` of R372. -/
def Coll.lg (x : Coll) : Nat := clog2 x.size

/-- One device's contribution of an element, and whether it loses a bit (R372); none of a value that is not finite. -/
def contribution (q : Val) (own agreed lg : Nat) : Option (Int × Bool) :=
  if !q.isFin then none
  else
    let v := q.q.scale (15 - (lg : Int) - ((agreed : Int) - (own : Int)))
    some (v.trunc, !(Q.ofInt v.trunc).eq v)

/-- This device's contributions of a run of blocks join the sums; those that lose a bit are counted. -/
def State.addOwn (s : State) (x : Coll) (b n : Nat) : State :=
  let e0 := 32 * b
  (List.range (x.elems b n)).foldl (fun s i =>
    let e := e0 + i
    let blk := e / 32
    match contribution (decodeFp .e5m2 (nth 0 x.src e)) (nth 0 x.scales blk) (nth 0 x.agreed blk) x.lg with
    | some (v, lost) =>
      let s := if lost then s.bump 0x803A 6 1 else s
      s.modColl fun y => { y with sumAcc := modNth y.sumAcc e fun a => (a + ofSigned 32 v) % 2 ^ 32 }
    | none =>
      let (s, v) := s.fresh 32
      s.modColl fun y => { y with sumAcc := modNth y.sumAcc e fun a => (a + v) % 2 ^ 32 }) s

/-- The owner's result of one block: its elements and its scale byte (R373); a scale that no byte holds is free (log 5). -/
def State.blockResult (s : State) (x : Coll) (b : Nat) : State × List Nat × Nat :=
  let n := x.elems b 1
  let sj := nth 0 x.agreed b
  if sj = 0xFF then (s, List.replicate n 0, 0xFF)
  else
    let w : Int := (sj : Int) - 127 + (x.lg : Int) - 15
    let vs := (getRange x.sumAcc (32 * b) n).map fun t => (Q.ofInt (toSigned 32 t)).scale w
    let sc := max (vs.foldl (fun m v => max m (exactExp v)) (-125) - 15) (-127)
    let els := vs.map fun v => (roundFp .e5m2 .rne (v.scale (-sc))).bits
    if sc + 127 ≤ 0xFE then (s, els, (sc + 127).toNat)
    else
      let (s, b) := s.fresh 8
      (s, els, b)

/-- The owner forms the result of a chunk, writes it and sends it on (R373). -/
def State.ownResult (s : State) (c : Nat) : State :=
  match s.fab.coll with
  | none => s
  | some x =>
    let (b, n) := x.span c
    let (s, els, scs) := (List.range n).foldl (fun (a : State × List Nat × List Nat) i =>
      let (s, e, sc) := a.1.blockResult x (b + i)
      (s, a.2.1 ++ e, a.2.2 ++ [sc])) (s, [], [])
    let raw := (els ++ scs).map fun v => BitVec.ofNat 8 v
    let s := (segsOf raw.length).foldl (fun s g => s.collData x c g.1 (slice raw g.1 g.2)) s
    (s.path x c).downs.foldl (fun s r => s.collSendAll x r 0x23 c raw) s

/-- Every partial sum of a segment is here: it goes on, or, at the owner, is final. -/
def State.sumReady (s : State) (c off len : Nat) : State :=
  match s.fab.coll with
  | none => s
  | some x =>
    let pa := s.path x c
    if x.got.contains [0, c, off] || !(pa.froms.all fun r => x.got.contains [0x22, r, c, off]) then s
    else
      let s := s.modColl fun y => { y with got := y.got ++ [[0, c, off]] }
      let e0 := 32 * (x.span c).1 + off / 4
      match pa.onward with
      | some r => s.collSend x r 0x22 c off ((getRange x.sumAcc e0 (len / 4)).flatMap (leBytes 4))
      | none =>
        let done := (segsOf (x.chunkBytes 0x22 c)).all fun g => g.1 == off || x.got.contains [0, c, g.1]
        if done then s.ownResult c else s

/-- The scales of blocks `off .. off + len - 1` of a chunk are agreed: they are passed on, and the sums begin (R372). -/
def State.agreeScales (s : State) (c off : Nat) (vals : List Nat) : State :=
  match s.fab.coll with
  | none => s
  | some x =>
    let b := (x.span c).1 + off
    let s := s.modColl fun y => { y with agreed := putRange y.agreed b vals }
    let s := (s.path x c).downs.foldl (fun s r => s.collSend x r 0x21 c off (vals.map fun v => BitVec.ofNat 8 v)) s
    match s.fab.coll with
    | none => s
    | some x =>
      let s := s.addOwn x b vals.length
      let segs := (segsOf (x.chunkBytes 0x22 c)).filter fun g => decide (off ≤ g.1 / 128) && decide (g.1 / 128 < off + vals.length)
      segs.foldl (fun s g => s.sumReady c g.1 g.2) s

/-- Every reduced scale of a segment is here. -/
def State.expReady (s : State) (c off len : Nat) : State :=
  match s.fab.coll with
  | none => s
  | some x =>
    let pa := s.path x c
    if !(pa.froms.all fun r => x.got.contains [0x21, r, c, off]) then s
    else
      let vals := getRange x.expAcc ((x.span c).1 + off) len
      match pa.onward with
      | some r => s.collSend x r 0x21 c off (vals.map fun v => BitVec.ofNat 8 v)
      | none => s.agreeScales c off vals

/-! ## Receipt -/

def CollMsg.msg (m : CollMsg) : Msg :=
  { type := m.type, flags := m.flags, index := m.index, id := m.id, offset := m.offset, body := m.body }

/-- A BULK segment of the running collective: its raw bytes have the length that its place in the chunk gives. -/
def State.collSegment (s : State) (x : Coll) (m : CollMsg) (raw : List Byte) : State :=
  let c := m.index
  let key := [m.type, m.role, c, m.offset]
  let mark (s : State) : State := s.modColl fun y => { y with got := y.got ++ [key] }
  if x.op = 1 then
    let pa := s.path x c
    let b := (x.span c).1
    let up := pa.froms.contains m.role && !x.got.contains key
    if m.type = 0x21 then
      let vals := raw.map (·.toNat)
      if up then
        let acc := (getRange x.expAcc (b + m.offset) vals.length).zip vals
        (mark (s.modColl fun y => { y with expAcc := putRange y.expAcc (b + m.offset) (acc.map fun p => max p.1 p.2) })).expReady
          c m.offset vals.length
      else if pa.onward.isSome && nth 0 x.agreed (b + m.offset) == 256 then s.agreeScales c m.offset vals
      else s
    else if m.type = 0x22 then
      if !up then s
      else
        let e0 := 32 * b + m.offset / 4
        let vals := (List.range (raw.length / 4)).map fun i => leAt raw (4 * i) 4
        let acc := (getRange x.sumAcc e0 vals.length).zip vals
        (mark (s.modColl fun y => { y with sumAcc := putRange y.sumAcc e0 (acc.map fun p => (p.1 + p.2) % 2 ^ 32) })).sumReady
          c m.offset raw.length
    else if pa.onward.isNone || x.got.contains [1, c, m.offset] then s
    else
      let s := s.collData x c m.offset raw
      pa.downs.foldl (fun s r => s.collSend x r 0x23 c m.offset raw) s
  else if m.type ≠ 0x23 || x.got.contains key then s
  else
    let origin := if x.op = 2 then x.root else c
    let final := !(x.op == 2 && x.kind == 3 && m.role != 4 && x.rank != 0)
    let s := mark s
    let s := if final then s.collData x c m.offset raw else s
    (s.spread x m.role origin).foldl (fun s r => s.collSend x r 0x23 c m.offset raw) s

/-- A message of the running collective (R371-R376). -/
def State.collMessage (s : State) (x : Coll) (m : CollMsg) : State :=
  if m.type = 0x20 then
    if m.body = x.head then s else ((s.bump 0x803A 7 1).collAbort 0).collStop [.descriptorInvalid]
  else if m.type = 0x24 then (s.collAbort m.role).collStop [.descriptorInvalid]
  else
    let total := x.chunkBytes m.type m.index
    let len := min 65536 (total - m.offset)
    if x.chunks ≤ m.index ∨ total ≤ m.offset ∨ m.offset % 65536 ≠ 0 then s
    else if m.flags = 0 then (if m.body.length = len then s.collSegment x m m.body else s)
    else
      let e := expand m.body (s.boundTable x.flight) len
      match e.fault with
      | some f =>
        ((s.set 0x4203 1 (f.1 + x.ctx * 2 ^ 8 + f.2 % 2 ^ 32 * 2 ^ 32)).collAbort 0).collStop [.memUncorrectable]
      | none =>
        if e.raw.length = len then (s.bump 0x8035 5 len).collSegment x m e.raw else s

/-- Can a message be taken now: it belongs to the running collective, and the scales its sums need are agreed? -/
def State.collCan (s : State) (m : CollMsg) : Bool :=
  match s.fab.coll with
  | none => false
  | some x => m.id == x.id && x.ended.isNone
      && (m.type != 0x22 || x.op != 1 || nth 0 x.agreed ((x.span m.index).1 + m.offset / 128) != 256)

/-! ## Start and end (R370, R371, R377) -/

/-- The body of COLL_HEAD, big-endian (R8); the order and the widths are the model's (log 63). -/
def headBody (op id fmt n root comp coding gen crc : Nat) : List Byte :=
  beBytes 1 op ++ beBytes 4 id ++ beBytes 1 fmt ++ beBytes 8 n ++ beBytes 2 root ++ beBytes 1 comp ++ beBytes 1 coding
    ++ beBytes 1 gen ++ beBytes 4 crc

/-- The collective of a flight as it stands before its first message. A tensor that it walks beyond its EXT is not counted in
0x8032:01, which counts per core: no core executes a collective (R139, R369; DEDUCED, log 71). -/
def State.newColl (s : State) (f : Flight) : Coll × List Touch :=
  let d := f.desc.toNat
  let c := f.ctx
  let v := s.collView c
  let a := s.collTensor c (Cmd.ta d)
  let t := s.collTensor c (Cmd.tc d)
  let op := Co.op d
  let n := if op = 1 then volume a.exts else if op = 2 then tenBytes t else tenBytes a
  let reads := op != 2 || topoRank s.topo == Co.root d
  let ea := if reads then (List.range n).map (tenByteAddr v a) else []
  let sa := if op = 1 then (List.range (cdiv n 32)).map (scaleAddrOf v a) else []
  let rd (x : Nat) : Nat := (readByte s.mem s.ueNow x).toNat
  let crc := match s.boundTable f.id with
    | some b => leAt b.2 140 4
    | none => 0
  let sc := sa.map rd
  ({ flight := f.id, ctx := c, id := Co.id d, op := op, kind := topoKind s.topo, size := topoSize s.topo,
     rank := topoRank s.topo, root := Co.root d, n := n,
     head := headBody op (Co.id d) (Ten.format t.d) n (Co.root d) (b2n (Co.compress d)) (Co.coding d) (Co.gen d) crc,
     src := ea.map rd, scales := sc, expAcc := sc, agreed := sc.map fun _ => 256,
     sumAcc := if op = 1 then List.replicate n 0 else [], got := [], ended := none },
   (ea ++ sa).map fun x => ⟨x, false, 0⟩)

/-- A collective starts: COLL_HEAD to each neighbour, then what this device sends first (R371, R372, R375). Data that cannot
be read is sent as zero, and the collective runs to its end (R251). -/
def State.collStart (s : State) (f : Flight) : State :=
  let (x, t) := s.newColl f
  let s := { s with fab := { s.fab with coll := some x } }
  let s := (s.neighbours s.topo).foldl (fun s r => s.post r { type := 0x20, id := x.id, body := x.head }) s
  let s := (s.declareWalks x.ctx f.id t).collMet x t s.mem
  if x.op = 1 then
    (List.range x.chunks).foldl (fun s c =>
      if (s.path x c).froms ≠ [] then s
      else (segsOf (x.chunkBytes 0x21 c)).foldl (fun s g => s.expReady c g.1 g.2) s) s
  else
    let own := x.op == 3 || x.rank == x.root
    if !own then s
    else
      let c := if x.op = 3 then x.rank else 0
      let raw := x.src.map fun v => BitVec.ofNat 8 v
      let origin := x.rank
      let late := x.op == 2 && x.kind == 3 && x.rank != 0
      let s := if late then s else (segsOf raw.length).foldl (fun s g => s.collData x c g.1 (slice raw g.1 g.2)) s
      (s.spread x 0 origin).foldl (fun s r => s.collSendAll x r 0x23 c raw) s

/-- The running collective reaches its final completion; NEXT_COLL_ID rises (R370). -/
def State.collEnd (s : State) (x : Coll) (st : List Status) : State :=
  let s := { s with fab := { s.fab with coll := none } }
  let s := s.set 0x3102 2 ((s.nextColl + 1) % 2 ^ 32)
  let st := st ++ (if x.got.contains [2] then [Status.memUncorrectable] else [])
  match s.flight x.flight with
  | none => s
  | some f =>
    let s := if firstStatus (f.found ++ st) = .done then s.bump 0x803A 4 1 else s
    s.finish f st

/-- One move of the fabric engine: a waiting message is taken, a collective ends or starts. -/
def State.collMove (s : State) : Option State :=
  match s.fab.coll with
  | some x =>
    match x.ended with
    | some st => some (s.collEnd x st)
    | none =>
      if x.complete then
        let s := s.collSidecar x
        some (s.collEnd (s.fab.coll.getD x) [])
      else
        match s.fab.early.find? s.collCan with
        | none => none
        | some m =>
          let s := ({ s with fab := { s.fab with early := s.fab.early.erase m } }).takeMsg m.role m.msg
          some (s.collMessage x m)
  | none =>
    let stale := s.fab.early.filter fun m => decide (m.id < s.nextColl)
    if stale ≠ [] then
      let s := stale.foldl (fun s m => s.takeMsg m.role m.msg) s
      some { s with fab := { s.fab with early := s.fab.early.filter fun m => !decide (m.id < s.nextColl) } }
    else
      match s.sched.flights.find? fun f => f.engine == .fabric && decide (Co.id f.desc.toNat ≤ s.nextColl) with
      | none => none
      | some f =>
        if Co.id f.desc.toNat = s.nextColl then some (s.collStart f) else some (s.finish f [.descriptorInvalid])

/-- The fabric engine moves until nothing is left to do. -/
def State.collGo (s : State) : Nat → State
  | 0 => s
  | n + 1 =>
    match s.collMove with
    | none => s
    | some s => s.collGo n

def State.collDrive (s : State) : State := s.collGo (3 * (s.sched.flights.length + s.fab.early.length) + 4)

/-- Does an earlier command of the context that writes the pool or HBM still run on a core (R105, R370)? -/
def State.writesPending (s : State) (c : Nat) : Bool :=
  s.sched.flights.any fun f => f.engine == .cores && f.ctx == c && Cmd.opcode f.desc.toNat != 7
    && f.cores.any fun k => (s.reach c f.desc.toNat k (((s.coresOf c f.desc).findIdx? (· == k)).getD 0)).any fun t =>
      t.write && decide (t.addr < sliceFlat)

/-- A collective dispatched (R146, R369, R370): it reads TA only after earlier writes of the context. -/
def State.collCommand (s : State) (d : Dispatch) (desc : Desc) : State :=
  if !s.mayDispatch d.ctx || s.writesPending d.ctx then s
  else
    let (s, x) := s.take d desc
    if !hdrOk d.hdr 0 || !s.collOk d.ctx desc.toNat then s.refuse d.ctx x
    else if bit d.hdr 3 && s.frozen d.ctx (Cmd.layer desc.toNat) then
      ((s.complete x.addrs d.ctx .done 0 x.list x.hdr x.desc).bump 0x8033 0x01 1).sweepLists
    else
      let s := s.applyEnv d.env [] false fun c => c.res == .tracker && c.reqs.contains (d.ctx, Rec.cls (s.ctx d.ctx).record)
      let f : Flight := Flight.mk s.sched.nextId .fabric .normal d.ctx x.addrs x.hdr x.desc x.list [] [] false s.time []
      let s := s.addFlight f
      let s := match (if Co.coding desc.toNat = 0 then none else s.activeSlot (Co.gen desc.toNat)) with
        | some k => { s with codec := { s.codec with refs := s.codec.refs ++ [(f.id, k)] } }
        | none => s
      s.collDrive

/-- A COLLECTIVE descriptor with the row's COLL_OP. -/
def collDesc (d : Dispatch) (op : Nat) : Desc := force (force d.desc 7 0 9) 99 96 op

/-- ALL_REDUCE (R372-R374). -/
def execAllReduce (d : Dispatch) (s : State) : Host.Outcome State Fault Refusal := .next (s.collCommand d (collDesc d 1))

/-- BROADCAST (R375). -/
def execBroadcast (d : Dispatch) (s : State) : Host.Outcome State Fault Refusal := .next (s.collCommand d (collDesc d 2))

/-- ALL_GATHER (R375). -/
def execAllGather (d : Dispatch) (s : State) : Host.Outcome State Fault Refusal := .next (s.collCommand d (collDesc d 3))

/-- A collective's message arrives, one for each that was delivered (R362): taken now, or kept until its collective starts; one of an earlier collective is
discarded. -/
def State.collArrive (s : State) (m : CollMsg) : State :=
  let now := match s.fab.coll with
    | some x => decide (m.id < x.id)
    | none => decide (m.id < s.nextColl)
  let waiting := (s.fab.early.filter fun e => e == m).length
  if (s.fab.inbox.filter fun e => e.2 == (m.role, m.msg.bytes)).length ≤ waiting then s
  else if now then s.takeMsg m.role m.msg
  else ({ s with fab := { s.fab with early := s.fab.early ++ [m] } }).collDrive

/-- COLL_HEAD (R371). -/
def execCollHead (role id : Nat) (bs : List Byte) (s : State) : Host.Outcome State Fault Refusal :=
  .next (s.collArrive ⟨role, 0x20, 0, 0, id, 0, bs⟩)

/-- COLL_EXP (R372). -/
def execCollExp (role chunk id off flags : Nat) (bs : List Byte) (s : State) : Host.Outcome State Fault Refusal :=
  .next (s.collArrive ⟨role, 0x21, flags % 2, chunk, id, off, bs⟩)

/-- COLL_SUM (R374). -/
def execCollSum (role chunk id off flags : Nat) (bs : List Byte) (s : State) : Host.Outcome State Fault Refusal :=
  .next (s.collArrive ⟨role, 0x22, flags % 2, chunk, id, off, bs⟩)

/-- COLL_DATA (R373, R375). -/
def execCollData (role chunk id off flags : Nat) (bs : List Byte) (s : State) : Host.Outcome State Fault Refusal :=
  .next (s.collArrive ⟨role, 0x23, flags % 2, chunk, id, off, bs⟩)

/-- COLL_ABORT (R371). -/
def execCollAbort (role id : Nat) (bs : List Byte) (s : State) : Host.Outcome State Fault Refusal :=
  .next (s.collArrive ⟨role, 0x24, 0, 0, id, 0, bs⟩)

/-- A collective whose timeout expires (R377), started or waiting. -/
def State.collTimeout (s : State) (f : Flight) : State :=
  let s := s.bump 0x803A 5 1
  match s.fab.coll with
  | some x => if x.flight = f.id then (s.collStop [.timeout]).collDrive else s.finish f [.timeout]
  | none => s.finish f [.timeout]

end Sys2Proof.Machine
end

