-- ==== Sys2Proof/Machine/Tenon.lean ====
section
/-! DEFINITION. The Tenon links (R20-R29): training, width, requests and their order, flits, retry, and detours. -/

namespace Sys2Proof.Machine

/-! ## Links and their ends -/

/-- The Tenon links: T8 is not present (R20). -/
def linkNums : List Nat := [0, 1, 2, 3, 4, 5, 6, 7, 9, 10, 11, 12, 13, 14, 15, 16, 17, 18]

/-- The units that a link joins, in the order of R20. -/
def linkEnds (n : Nat) : Nat × Nat :=
  if n < 8 then (n / 2, 4 + n % 2)
  else match n with
    | 9 => (0, 1) | 10 => (1, 3) | 11 => (3, 2) | 12 => (2, 0)
    | 17 => (4, 6) | 18 => (5, 6)
    | _ => (n - 13, 6)

def linkTouches (n u : Nat) : Bool := (linkEnds n).1 == u || (linkEnds n).2 == u

def linksOf (u : Nat) : List Nat := linkNums.filter fun n => linkTouches n u

/-- The link that joins two dies, if there is one. -/
def linkBetween (a b : Nat) : Option Nat := linkNums.find? fun n => linkEnds n == (a, b) || linkEnds n == (b, a)

/-- LINK_STATE: 0 DOWN, 1 UP_HALF, 2 UP_REPAIRED, 3 UP, 4 TRAINING, 5 WAITING (R29). -/
def State.link (s : State) (n : Nat) : Nat := s.get (0x1040 + n) 1

def State.setLink (s : State) (n v : Nat) : State := s.set (0x1040 + n) 1 v

def State.tenon (s : State) (n : Nat) : Tenon := smGet {} s.pkg.links n

def State.setTenon (s : State) (n : Nat) (x : Tenon) : State := { s with pkg := { s.pkg with links := smSet {} s.pkg.links n x } }

/-- Is a link in service: UP_HALF, UP_REPAIRED or UP, or still up while it waits to train? -/
def State.linkUp (s : State) (n : Nat) : Bool :=
  linkNums.contains n && ((decide (1 ≤ s.link n) && decide (s.link n ≤ 3)) || (s.link n == 5 && (s.tenon n).width != 0))

/-- A link goes DOWN without a training result: a training under way or awaited is over, and RETRAIN_REQUEST with it (R29). -/
def State.dropLink (s : State) (n : Nat) : State := (s.setLink n 0).set (0x1040 + n) 6 0

/-- A die with no Tenon link in service or to come (R27). -/
def State.cutOff (s : State) (u : Nat) : Bool := (linksOf u).all fun n => s.link n == 0

/-! ## Training (R24, R25, R28) -/

def State.linkBusy (s : State) (n : Nat) : Bool :=
  linkNums.any fun m => m != n && s.link m == 4 && (linkTouches m (linkEnds n).1 || linkTouches m (linkEnds n).2)

/-- A training request (R25): the link trains, or waits while a link that shares a die trains. DESIGN CHOICE (log 83, unsafe):
the spec does not say what a request does while an end of the link is in reset or LOST, or in S0; it starts a training all
the same. -/
def State.requestTraining (s : State) (n : Nat) : State :=
  if s.link n = 4 ∨ s.link n = 5 then s
  else if s.linkBusy n then (s.setTenon n { s.tenon n with width := s.link n }).setLink n 5
  else s.setLink n 4

/-- A re-equalisation of a link (R450): at once, or after the trainings that share a die with it. -/
def State.reEqualise (s : State) (n : Nat) : State :=
  if s.linkBusy n ∨ s.link n = 4 ∨ s.link n = 5 then s.setTenon n { s.tenon n with eqWait := (s.tenon n).eqWait + 1 }
  else s.bump 0x803D 5 1

/-- Waiting trainings begin in link-number order where no link that shares a die trains; so do re-equalisations (R25, R450). -/
def State.startWaiting (s : State) : State :=
  linkNums.foldl (fun s n =>
    if s.linkBusy n then s
    else if s.link n = 5 then s.setLink n 4
    else if s.link n = 4 then s
    else (s.bump 0x803D 5 (s.tenon n).eqWait).setTenon n { s.tenon n with eqWait := 0 }) s

def popCount (n v : Nat) : Nat := ((List.range n).filter fun i => bit v i).length

/-- The state that so many failed lanes leave a direction in (R24). -/
def widthOf (failed : Nat) : Nat :=
  let n := popCount 66 failed
  if n = 0 then 3 else if n ≤ 2 then 2 else if n ≤ 34 then 1 else 0

/-- What a training leaves on record whatever becomes of its die (R28, R29, R524): failed-lane maps, count, pattern run. -/
def State.recordTraining (s : State) (r : LinkRun) : State :=
  let n := r.link
  let s := (s.set (0x1040 + n) 2 (r.failedAB % 2 ^ 66)).set (0x1040 + n) 3 (r.failedBA % 2 ^ 66)
  let s := (s.set (0x1040 + n) 5 ((s.get (0x1040 + n) 5 + 1) % 2 ^ 32)).set (0x1040 + n) 6 0
  let v := r.bits % 2 ^ 64 + r.errAB % 2 ^ 32 * 2 ^ 64 + r.errBA % 2 ^ 32 * 2 ^ 96 + r.laneAB % 256 * 2 ^ 128
    + r.laneBA % 256 * 2 ^ 136
  let s := s.set (0x1070 + n) 1 v
  s.setTenon n { (s.tenon n) with eqDone := false }

/-- The result of one training: what is recorded, and the width of the worse direction (R24). -/
def State.linkTrained (s : State) (r : LinkRun) : State :=
  (s.recordTraining r).setLink r.link (min (widthOf r.failedAB) (widthOf r.failedBA))

/-! ## Detours (R26) -/

/-- The ring neighbours of a compute die, the lower number first (R20). -/
def ringNeighbours (d : Nat) : List Nat := if d = 0 ∨ d = 3 then [1, 2] else [0, 3]

/-- The intermediate dies that a detour between two dies may take, in the order of R26. -/
def detours (a b : Nat) : List Nat :=
  let lo := min a b
  let hi := max a b
  if hi < 4 then [4, 5]
  else if lo < 4 then ringNeighbours lo
  else [0, 1, 2, 3]

/-- Do both links of a detour over `v` work? -/
def State.detourUp (s : State) (a b v : Nat) : Bool :=
  v != a && v != b && s.dieState v == 3 && (linkBetween a v).any s.linkUp && (linkBetween v b).any s.linkUp

/-- The path that new traffic from one die to another is to take (R26): their link, else the first detour whose links are in
service; none where there is no path. -/
def State.route (s : State) (a b : Nat) : Option (Option Nat) :=
  match linkBetween a b with
  | none => none
  | some n => if s.linkUp n then some none else ((detours a b).find? (s.detourUp a b)).map some

def pathKey (a b : Nat) : Nat := a * 16 + b

def State.tenonPath (s : State) (a b : Nat) : TenonPath := smGet {} s.pkg.paths (pathKey a b)

def State.setTenonPath (s : State) (a b : Nat) (x : TenonPath) : State :=
  { s with pkg := { s.pkg with paths := smSet {} s.pkg.paths (pathKey a b) x } }

/-- Flits sent on a path that its links can still bring home: a link that is DOWN acknowledges nothing more, and what stood on
it is sent again on the new path (log 76). -/
def State.pathBusy (s : State) (b : Nat) (x : TenonPath) : Bool :=
  (x.unacked.any fun e => s.link e.1 != 0)
    || (x.transit != 0 && x.via.any fun v => (linkBetween v b).any fun n => s.link n != 0)

/-- The path in force from one die to another (R26): the old one until every flit sent on it is acknowledged, then the one
that the links' states call for. -/
def State.pathInForce (s : State) (a b : Nat) : Option (Option Nat) :=
  let x := s.tenonPath a b
  if s.pathBusy b x then some x.via else s.route a b

/-- Does the sending die hold new flits for the destination, because the path is to change (R26)? -/
def State.pathMoving (s : State) (a b : Nat) : Bool := s.pathBusy b (s.tenonPath a b) && s.route a b != some (s.tenonPath a b).via

/-- The traffic of a fenced die is purged: flits from it, to it and over it (R473). -/
def State.purgePaths (s : State) (u : Nat) : State :=
  let hit (k : Nat) (x : TenonPath) : Bool := k / 16 == u || k % 16 == u || x.via == some u
  { s with pkg := { s.pkg with paths := (s.pkg.paths.map fun e =>
    if hit e.1 e.2 then (e.1, { e.2 with via := none, unacked := [], transit := 0 }) else e).filter fun e => e.2 != {} } }

/-! ## Flits (R22, R472) -/

/-- A reply is dropped (R472): its tag or the tag it echoes is not current. `(source, its tag, receiver, echoed tag)`. -/
def State.staleReply (s : State) (r : Nat × Nat × Nat × Nat) : Bool :=
  s.tag r.1 % 256 != r.2.1 % 256 || s.tag r.2.2.1 % 256 != r.2.2.2 % 256

def Tenon.dir (x : Tenon) (toB : Bool) : TenonDir := if toB then x.ab else x.ba

def Tenon.setDir (x : Tenon) (toB : Bool) (d : TenonDir) : Tenon := if toB then { x with ab := d } else { x with ba := d }

/-- The die that a direction of a link comes from, and the one it goes to. -/
def linkFrom (n : Nat) (toB : Bool) : Nat := if toB then (linkEnds n).1 else (linkEnds n).2
def linkTo (n : Nat) (toB : Bool) : Nat := linkFrom n !toB

/-- Is a hop over a link part of a path from `src` to `dst`? -/
def onPath (via : Option Nat) (src dst a b : Nat) : Bool :=
  match via with
  | none => a == src && b == dst
  | some v => (a == src && b == v) || (a == v && b == dst)

/-- Can this flit come over this link now: the link lies on the path in force, and the source does not hold new flits? -/
def State.flitComes (s : State) (h : TenonHop) (seq : Nat) : Bool :=
  let from_ := linkFrom h.link h.toB
  let known := (s.tenonPath h.src h.dst).unacked.contains (h.link, h.toB, seq)
  (match s.pathInForce h.src h.dst with
    | none => false
    | some via => onPath via h.src h.dst from_ (linkTo h.link h.toB))
  && (s.linkUp h.link || (linkNums.contains h.link && s.link h.link == 4))
  && (from_ != h.src || known || (s.linkUp h.link && !s.pathMoving h.src h.dst))

/-- The path's record as the next flit finds it: once the old path is drained, that of the path in force. -/
def State.pathNow (s : State) (src dst : Nat) : TenonPath :=
  let x := s.tenonPath src dst
  if s.pathBusy dst x then x else { x with via := (s.route src dst).getD none, unacked := [], transit := 0 }

/-- A flit that fails its CRC is counted, and waits for its retry (R22). -/
def State.flitRetried (s : State) (h : TenonHop) (seq : Nat) : State :=
  let s := s.bump 0x8010 ((linkNums.takeWhile (· != h.link)).length + 1) 1
  let x := s.pathNow h.src h.dst
  if linkFrom h.link h.toB != h.src || seq != ((s.tenon h.link).dir h.toB).rxSeq
      || x.unacked.contains (h.link, h.toB, seq) then s
  else s.setTenonPath h.src h.dst { x with unacked := x.unacked ++ [(h.link, h.toB, seq)] }

/-- A good flit in its place is accepted at the link's end: delivered at its destination, else on its way over the
intermediate die; a stale reply is dropped there (R22, R26, R472). -/
def State.flitAccepted (s : State) (h : TenonHop) (seq : Nat) (reply : Option (Nat × Nat × Nat × Nat)) (bytes : List Byte) :
    State :=
  let x := s.pathNow h.src h.dst
  let x := { x with unacked := x.unacked.filter (· != (h.link, h.toB, seq)) }
  let s := s.setTenon h.link ((s.tenon h.link).setDir h.toB { rxSeq := seq + 1 })
  if linkTo h.link h.toB != h.dst then s.setTenonPath h.src h.dst { x with transit := x.transit + 1 }
  else
    let x := if x.via.isSome then { x with transit := x.transit - 1 } else x
    if reply.any s.staleReply then (s.setTenonPath h.src h.dst x).bump 0x803E 7 1
    else s.setTenonPath h.src h.dst { x with delivered := x.delivered ++ [bytes] }

/-- TENON_FLIT (R22, R26, R472): a flit at the end of one hop. It is checked by its CRC (`ok`); one that does not come in its
place is not delivered. -/
def execTenonFlit (hop : TenonHop) (seq : Nat) (ok : Bool) (reply : Option (Nat × Nat × Nat × Nat)) (bytes : List Byte)
    (s : State) : Host.Outcome State Fault Refusal :=
  .next (if !s.flitComes hop seq then s
    else if !ok then s.flitRetried hop seq
    else if seq ≠ ((s.tenon hop.link).dir hop.toB).rxSeq then s
    else s.flitAccepted hop seq reply bytes)

end Sys2Proof.Machine
end

