-- ==== Sys2Proof/Machine/Reset.lean ====
section
/-! DEFINITION. Reset domains, fences, the ends of the work they cut off, and the package reset (R461-R487). -/

namespace Sys2Proof.Machine

/-! ## Dies (R31) -/

def State.setDie (s : State) (u v : Nat) : State := s.set 0x1011 (u + 1) v

/-- A unit's incarnation tag rises by 1, modulo 256 (R471). -/
def State.tagUp (s : State) (u : Nat) : State := s.set 0x6050 (u + 1) ((s.tag u + 1) % 256)

def groupsOfDie (d : Nat) : List Nat := (List.range 10).map fun g => d * 10 + g

/-- The unit of a reset domain: the die of a cluster group or a Planer half, the die or engine itself; none for the
package. -/
def domUnit (t i : Nat) : Option Nat :=
  match t with
  | 1 => some (i / 10) | 2 => some (4 + i) | 3 => some i | 4 => some (4 + i) | 5 => some (7 + i) | _ => none

/-- Does domain `(t, i)` include domain `(t', i')` (R461)? -/
def domCovers (t i t' i' : Nat) : Bool :=
  t == 6 || (t == t' && i == i') || (t == 3 && t' == 1 && i' / 10 == i) || (t == 4 && t' == 2 && i' == i)

/-- A domain of the table of R461, as RESET_REQUEST codes it (R486). -/
def domExists (t i : Nat) : Bool :=
  (t == 1 && decide (i < 40)) || (t == 2 && decide (i < 2)) || (t == 3 && decide (i < 4)) || (t == 4 && decide (i < 2))
    || (t == 5 && decide (i < 7)) || (t == 6 && i == 0)

/-! ## Wipes of domains (R261, R461) -/

/-- The slices, pools, registers, banks and arbitration pointers of the cores that `p` names, given a core of each cluster: every
pointer is 0 after the reset of its core, cluster or die (R91). -/
def State.wipeCores (s : State) (p : Nat → Bool) : State :=
  let s := s.wipeWhere fun a => decide (poolFlat ≤ a) && if a < sliceFlat then p (poolCluster a * 80) else p (sliceKey a / 8)
  let k := s.cores.clearSlots fun k => p (k / 8)
  let pool := arbCode .pool * 2 ^ 20
  let mine (i : Nat) : Bool := if i < pool then p (i % 2 ^ 20) else decide (i < pool + 2 ^ 20) && p ((i - pool) / 32 * 80)
  { s with cores := { k with accs := smDrop (fun i => p (i / 2048)) k.accs, lastSlot := smDrop p k.lastSlot,
                             ptrs := smDrop mine k.ptrs } }

/-- The cache of a memory-side die emptied, with its trackers and their pointers (R91, R261). -/
def State.clearCache (s : State) (md : Nat) : State :=
  let m := s.memsys
  let lines := m.lines.filter fun l => mdOf l.line != md
  let trackers := m.trackers.filter fun t => t.stack / 4 != md
  let ptr (i : Nat) : Bool := i / 2 ^ 20 == arbCode .tracker && i % 2 ^ 20 / 4 == md
  { s with memsys := { m with lines := lines, trackers := trackers, misses := m.misses.filter fun h => h.stack / 4 != md },
           cores := { s.cores with ptrs := smDrop ptr s.cores.ptrs } }

/-- The four stacks of a memory-side die, reserved rows and its lost-line list included; the list of the other die stays. -/
def State.wipeStacks (s : State) (md : Nat) : State :=
  let keep := s.memsys.lost.filter fun e => mdOf e.1 != md
  let s := s.wipeWhere fun a => if a < hbmBytes then mdOf a == md
    else decide (rsvBase ≤ a) && decide (a < poolFlat) && (a - rsvBase) / (128 * mib) == md
  { s with memsys := { s.memsys with lost := keep } }

/-! ## Work that a reset or a fence ends (R464, R476) -/

/-- One command ends with a status, whichever engine holds it. -/
def State.cutFlight (s : State) (f : Flight) (st : Status) : State :=
  match f.engine with
  | .planer =>
    if s.plan.job.any (fun j => j.flight == f.id) then s.stopJob st
    else (s.modPlan fun p => { p with queue := p.queue.filter (fun q => q.1 != f.id), frozen := p.frozen.filter (· != f.id) }).finish f [st]
  | .intake => (s.dropBatch f.id).finish f [st]
  | .fabric =>
    if s.fab.coll.any (fun x => x.flight == f.id) then (s.collStop [st]).collDrive else s.finish f [st]
  | .cores | .codec => s.finish f [st]

/-- The commands that have work on cores of a domain, a suspect's replay included. -/
def State.coreWork (s : State) (t i : Nat) : List Flight :=
  s.sched.flights.filter fun f => f.engine == .cores && f.cores.any (inDomain t i)

/-- A command becomes one that a reset interrupted (R467). -/
def interruptedBy (t i : Nat) (f : Flight) : Interrupted :=
  { flight := f.id, ctx := f.ctx, list := f.list, addrs := f.addrs, hdr := f.hdr, desc := f.desc, domType := t, domIndex := i }

/-- SUSPECT_STATE of a context: its state and the commands that await replay (R486). -/
def State.setSuspect (s : State) (c st : Nat) : State :=
  let n := (s.sched.suspects.filter fun x => x.ctx == c).length
  s.set 0x6003 (c + 1) (if st = 0 then 0 else st * 2 ^ 24 + min n 65535)

/-- A replay that a die's fault interrupts is abandoned (R469): its context stays a suspect and waits for the domain. A barrier at
which it waits completes with the fault flag (R100). -/
def State.abandonReplay (s : State) (c t i : Nat) : State :=
  let left := s.sched.flights.filter fun (f : Flight) => !(f.kind == .replay && f.ctx == c)
  let again := mapIf (fun (x : Interrupted) => x.ctx == c) (fun x => { x with domType := t, domIndex := i }) s.sched.suspects
  let s := { s with sched := { s.sched with flights := left, suspects := again } }
  let s := s.bump 0x8031 0x08 (b2n (s.arrivals c != []))
  ((s.setArrivals c []).bump 0x803E 0x0B 1).setSuspect c 1

/-- A replay ends (R469): each interrupted command of the context gets its replay completion, logged with the status the
replay met; a guilty context is held. A barrier left without its release completes with the fault flag (R463). -/
def State.replayEnd (s : State) (c : Nat) (met : Option Status) : State :=
  let mine := s.sched.suspects.filter fun x => x.ctx == c
  let st := if met.isNone then Status.replayedClean else .replayedGuilty
  let code := (met.map Status.code).getD 0
  let left := s.sched.flights.filter fun (f : Flight) => !(f.kind == .replay && f.ctx == c)
  let s := { s with sched := { s.sched with suspects := s.sched.suspects.filter (fun x => x.ctx != c), flights := left } }
  let s := mine.foldl (fun s x => x.addrs.foldl (fun s a =>
    (s.sendComp a st c 0 []).logAdd { kind := 2, ctx := c, status := st.code, entry := a.entry, tag := a.tag,
                                      listTag := a.listTag, detail := leBytes 1 code }) s) s
  let s := s.bump 0x8031 0x08 (b2n (s.arrivals c != []))
  let s := (s.setArrivals c []).bump 0x803E (if met.isNone then 9 else 0x0A) 1
  let s := (if met.isNone then s else s.set 0x6005 (c + 1) 1).setSuspect c 0
  s.sweepLists.codecRelease

/-- The core work of a domain ends with `st`, and its commands become interrupted ones. Barriers complete with the
barrier-fault flag: those of the commands' contexts (R463) and those with a participant on a fenced die (R100). -/
def State.endCoreWork (s : State) (t i : Nat) (st : Status) : State :=
  let work := s.coreWork t i
  let normal := work.filter fun f => f.kind == .normal
  let s := { s with sched := { s.sched with interrupted := s.sched.interrupted ++ normal.map (interruptedBy t i) } }
  let hit (c : Nat) : Bool := work.any (fun f => f.ctx == c)
    || (t == 3 && (groupsOfDie i).any fun g => bit (Rec.footprint (s.ctx c).record) g)
  let s := ((List.range 64).filter hit).foldl (fun s c => s.faultBarrier c st) s
  let s := normal.foldl (fun s f => match s.flight f.id with
    | some f => s.finish f [st]
    | none => s) s
  -- a Planer job whose borrowed pass has not finished there stops (R185)
  if s.sched.flights.any fun f => f.engine == .planer && f.cores.any (inDomain t i) then (s.stopJob st).planerNext else s

/-! ## LOST dies (R475, R477) -/

/-- A unit is LOST: its DIE_STATE, its bit of DEGRADED, the log entry; its links and its port go down. -/
def State.markLost (s : State) (u attempts : Nat) : State :=
  let s := s.setDie u 5
  let s := if u < 4 then s.set 0x6002 1 (setBit (s.get 0x6002 1) u true)
    else if 7 ≤ u && u ≤ 13 then s.set 0x6002 1 (setBit (s.get 0x6002 1) (u - 3) true) else s
  let s := (linksOf u).foldl State.dropLink (s.purgePaths u)
  s.logAdd { kind := 0x23, unit := some u, detail := leBytes 1 attempts }

/-- What a LOST compute die does to the models whose footprint includes it (R475). -/
def State.retireLost (s : State) (d : Nat) : State :=
  let on (m : Nat) : Bool := (groupsOfDie d).any fun g => bit (Rec.footprint (s.record m)) g
  ((List.range 255).filter on).foldl (fun s m =>
    match s.modelState m with
    | 1 => s.refuseLoad m 6
    | 2 | 3 => s.stopModel m 5
    | 5 => ((s.setModelState m 4).setReason m 6).refuseWaiting m 6
    | _ => s) s

/-! ## A reset begins (R461, R473, R478, R482) -/

/-- LAST_RESET (R486). -/
def State.lastReset (s : State) (t i cause dump : Nat) : State :=
  s.set 0x6001 1 (t + i * 2 ^ 8 + cause * 2 ^ 16 + s.us % 2 ^ 64 * 2 ^ 32 + dump % 2 ^ 32 * 2 ^ 96)

/-- A compute die's clocks and links while it is held in reset. -/
def State.dieDark (s : State) (d : Nat) : State :=
  let s := ((groupsOfDie d).foldl (fun s g => s.setGroupClock g 0) s).setPll d 0
  let s := { s with pkg := { s.pkg with wakeWait := s.pkg.wakeWait.filter fun g => g / 10 != d } }
  ((linksOf d).foldl State.dropLink (s.purgePaths d)).powerUpdate

/-- The fence of a unit (R473): DIE_STATE reads FENCED, the tag rises. -/
def State.fence (s : State) (u cause : Nat) : State :=
  let s := s.logAdd { kind := 0x21, unit := some u, detail := leBytes 1 cause }
  (s.setDie u 4).tagUp u

/-- The fence of a memory-side die (R476): the Planer stops, every dispatched command completes with DIE_LOST, a pair is
left, every model is retired. -/
def State.fenceMemory (s : State) (md : Nat) : State :=
  let s := (s.sched.flights.filter fun f => f.kind == .replay).foldl (fun s f => s.abandonReplay f.ctx 4 md) s
  let s := (List.range 64).foldl (fun s c => s.faultBarrier c .dieLost) s
  let s := s.sched.flights.foldl (fun s f => match s.flight f.id with
    | some f => s.cutFlight f .dieLost
    | none => s) s
  let s := { s with sched := { s.sched with interrupted := [], suspects := [] } }
  let s := (List.range 64).foldl (fun (s : State) c => s.setSuspect c 0) s
  let s := if s.pairState = 1 || s.pairState = 2 || s.pairState = 4 || s.pairState = 5 then s.pairWrite 0 else s
  let s := s.holders.foldl (fun s h => if h.2.phase = .stopping then s else s.stopModel h.2.model 5) s
  let s := (linksOf (4 + md)).foldl State.dropLink (s.purgePaths (4 + md))
  (s.setPll (4 + md) 0).sweepLists

/-- The fence of an optical engine (R461, R477): its port or the host link goes down. -/
def State.fenceEngine (s : State) (e : Nat) : State :=
  if e = 6 then s.linkLost 0
  else
    let role := s.portRole e
    let only := decide (2 ≤ role) && s.rolePorts role == [e]
    let s := if s.portUp e || s.portState e = 1 then s.portLeaves e 4 else s
    if only && s.fab.coll.isSome then (s.collStop [.dieLost]).collDrive else s

/-- A reset of a domain begins, unless one that covers it is under way (R478); it absorbs the smaller ones inside it. What this
does to the links' waiting trainings and to dies left without a link is `State.resetBegin`'s. -/
def State.resetCore (s : State) (t i cause : Nat) : State :=
  if s.pkg.resets.any fun r => domCovers r.domType r.domIndex t i then s
  else
    let inside (t' i' : Nat) : Bool := domCovers t i t' i'
    let moved (x : Interrupted) : Interrupted := if inside x.domType x.domIndex then { x with domType := t, domIndex := i } else x
    let s := { s with
      sched := { s.sched with interrupted := s.sched.interrupted.map moved },
      pkg := { s.pkg with resets := s.pkg.resets.filter fun r => !inside r.domType r.domIndex } }
    let s := if t = 6 then s else s.bump 0x803E (if t = 1 then 3 else if t = 2 then 4 else 5) 1
    let seq := s.log.seq
    let s := s.logAdd { kind := 0x20, unit := domUnit t i, detail := leBytes 1 t ++ leBytes 1 i ++ leBytes 1 cause }
    let r : Reset := ⟨t, i, cause, if t = 5 then 1 else 0, seq⟩
    let s := { s with pkg := { s.pkg with resets := s.pkg.resets ++ [r] } }
    let s := s.lastReset t i cause 0xFFFFFFFF
    match t with
    | 1 =>
      let replays := (s.coreWork 1 i).filter fun f => f.kind == .replay
      let s := replays.foldl (fun s f => s.replayEnd f.ctx (some .timeout)) s
      s.endCoreWork 1 i .timeout
    | 2 => s.stopJob .timeout
    | 3 =>
      let replays := (s.coreWork 3 i).filter fun f => f.kind == .replay
      let s := replays.foldl (fun s f => s.abandonReplay f.ctx 3 i) s
      ((s.fence i cause).dieDark i).endCoreWork 3 i .dieLost
    | 4 => (s.fence (4 + i) cause).fenceMemory i
    | 5 => (s.fence (7 + i) cause).fenceEngine i
    | _ => s

/-- A die left with no Tenon link (R27, R475-R477): a compute die is LOST; without a memory-side die or the IOD the package
starts again. -/
def State.loseCutOff (s : State) (u : Nat) : State :=
  if u < 4 then (s.markLost u 0).retireLost u else s.resetCore 6 0 (if u = 6 then 6 else 9)

/-- Is an admitted die without a link? In S2, and for a die that its link to the IOD admitted also in S1 and RETURNING, where
the IOD's own links are still to train. -/
def State.isCutOff (s : State) (u : Nat) : Bool :=
  s.dieState u == 3 && s.cutOff u && (s.stage == 4 || (decide (u < 6) && (s.stage == 2 || s.stage == 7)))

/-- Every die left without a link is lost, and so are those that its loss leaves without one; `n` bounds their number. -/
def State.cutOffs : Nat → State → State
  | 0, s => s
  | n + 1, s => match (List.range 7).find? s.isCutOff with
    | none => s
    | some u => State.cutOffs n (s.loseCutOff u)

/-- What follows when links have gone DOWN without a training's end: trainings that waited for theirs begin (R25), and dies left
without a link are lost (R27). -/
def State.linksFell (s : State) : State := s.startWaiting.cutOffs 7

/-- A reset of a domain begins (R461, R473), with what the fence of a die does to the links of the others. -/
def State.resetBegin (s : State) (t i cause : Nat) : State :=
  let s := s.resetCore t i cause
  if t = 3 ∨ t = 4 then s.linksFell else s

/-! ## The package reset (R261, R471, R485) -/

/-- Objects that a package reset keeps (R485), with those that report the board, the fuses or the NVS. -/
def keptObject (key : Nat) : Bool :=
  let i := key / 256
  let k := key % 256
  i == 0x1000 || i == 0x1101 || i == 0x2100 || i == 0x2200 || i == 0x5003 || i == 0x6001 || i == 0x6004 || i == 0x6006
    || i == 0x6040 || i == 0x6050 || i == 0x5001 || i == 0x2203
    || (decide (0x1040 ≤ i) && decide (i ≤ 0x1052) && (k == 2 || k == 3))
    || (i == 0x2001 && decide (k ≤ 2)) || (i == 0x2003 && k == 1) || (i == 0x2201 && k == 3) || (i == 0x3002 && k == 1)

/-- The objects after a package reset: STACK_STATE keeps its repaired rows, OE_STATUS its laser bits (R262, R517). -/
def State.resetObjects (s : State) : State :=
  let s := { s with obj := s.obj.filter fun e => keptObject e.1 }
  let s := (List.range 8).foldl (fun s h => s.set 0x5001 (h + 1) (s.get 0x5001 (h + 1) % 256)) s
  (List.range 7).foldl (fun s e => s.set 0x2203 (e + 1) (s.get 0x2203 (e + 1) % 2)) s

/-- Everything a package reset loses is lost; every tag and BOOT_COUNT rise (R471, R485). The completions and the bytes
already sent stay on record. -/
def State.packageReset (s : State) (cause : Option Nat) : State :=
  let s := (List.range 15).foldl (fun s u => s.tagUp u) s.resetObjects
  let s := (s.set 0x6001 2 ((s.get 0x6001 2 + 1) % 2 ^ 32)).drainJournal
  let p := s.pkg
  { s with
    ctr := [], mem := [], ue := [], cores := {}, memsys := {}, seats := [{}, {}], fab := {}, codec := {}, intake := {},
    contests := [],
    sched := { ctxs := List.replicate 64 noCtx, comps := s.sched.comps },
    net := { wire := s.net.wire },
    plan := { ring := s.plan.ring, void := s.plan.ring.length },
    pkg := { fuses := p.fuses.take 14 ++ [0], resetHeld := p.resetHeld, trip := p.trip, cause := cause },
    bg := { wear := s.bg.wear, remap := s.bg.remap, repaired := s.bg.repaired },
    sec := { s.sec with running := [], measure := [], signing := [none, none], blow := none } }

end Sys2Proof.Machine
end

