-- ==== Sys2Proof/Machine/Start.lean ====
section
/-! DEFINITION. The boot ROM (R489-R491, R503-R505) and the staged start: assembly, Tenon training, holds (R24-R44,
R436-R440). -/

namespace Sys2Proof.Machine

/-- STAGE and STAGE_TIME (R442). -/
def State.setStage (s : State) (v : Nat) : State := (s.set 0x2000 1 v).set 0x2000 2 (s.ms % 2 ^ 32)

/-! ## The firmware image (R489, R490) -/

/-- Bytes of the stored image. -/
def State.imageBytes (s : State) (off n : Nat) : List Byte := (List.range n).map fun i => smGet 0#8 s.sec.image (off + i)

def allZero (bs : List Byte) : Bool := bs.all (· == 0#8)

/-- The life-cycle state in force (R499, R503). -/
def State.lifecycle (s : State) : Nat :=
  if s.sec.decom then 4
  else ((s.sec.records.find? fun r => r.count == s.sec.lcCount).map (·.state)).getD 0

/-- The digest D of an image (R489). -/
def imageDigest (data : List Byte) : List Byte := leBytes 64 (Config.shake256 64 data)

/-- BODY_BYTES of the stored image. -/
def State.bodyBytes (s : State) : Nat := leNat (s.imageBytes 12 4)

/-- Checks 2 to 8 of R490 on the stored image, in order: the BOOT_RESULT code. -/
def State.imageCheck (s : State) : Nat :=
  let h := s.imageBytes 0 64
  let body := leAt h 12 4
  let svn := leAt h 6 1
  if s.sec.imageBad then 7
  else if leAt h 0 4 ≠ 0x31474D49 ∨ leAt h 4 2 ≠ 1 ∨ 16 ≤ leAt h 7 1 ∨ !allZero (slice h 48 16)
      ∨ !allZero (s.imageBytes 2016 2080) then 1
  else if body % 4096 ≠ 0 ∨ body < 4096 ∨ 33546240 < body ∨ 64 < svn then 2
  else
    let key := s.imageBytes 64 1952
    let d := imageDigest (s.imageBytes 0 (4096 + body))
    if Config.shake256 32 key % 2 ^ 256 ≠ s.sec.keyHash then 3
    else if !Config.mldsaVerify key d (s.imageBytes (4096 + body) 3309) then 4
    else if svn < s.sec.svnFloor then 5
    else if !bit (leAt h 7 1) s.lifecycle then 6
    else 0

/-! ## S0 (R436, R490, R491, R501, R503-R505) -/

/-- The image that passed its checks is the running one: its header, its measurement, its version and masks. -/
def State.runImage (s : State) : State :=
  let d := imageDigest (s.imageBytes 0 (4096 + s.bodyBytes))
  let h := s.imageBytes 0 2016
  let s := { s with sec := { s.sec with running := h, measure := d } }
  let s := (s.set 0x1000 5 (leAt h 8 4)).set 0x1102 2 (leNat d)
  (List.range 4).foldl (fun s t => s.set 0x1021 (t + 1) (leAt h (16 + 8 * t) 8)) s

/-- A life-cycle record written before its fuse was blown is LOST (R503). -/
def State.recordLost (s : State) : State :=
  let lost (r : LcRecord) : Bool := r.count == s.sec.lcCount + 1
  if s.sec.records.any lost then
    let s := { s with sec := { s.sec with records := mapIf lost (fun _ => ⟨0, 0⟩) s.sec.records } }
    s.set 0x1100 5 7
  else s

/-- A new LC_CHALLENGE (R501): 256 random bits. -/
def State.newChallenge (s : State) : State :=
  let (s, v) := s.fresh 256
  s.set 0x1100 4 v

/-- Every die is in reset, the open site absent, the host port trains in SINGLE (R31, R331, R436). -/
def State.bootPackage (s : State) : State :=
  let s := (List.range 14).foldl (fun s u => s.setDie u 1) (s.setDie 14 0)
  let s := linkNums.foldl (fun s n => s.setLink n 0) s
  let s := (s.set 0x2002 1 4).set 0x3002 1 (s.get 0x1000 4)
  s.trainHost false

/-- The erasures of a life-cycle transition, before the next S1 (R504). -/
def State.eraseAreas (s : State) : State :=
  match s.sec.erase with
  | none => s
  | some st =>
    let s := { s with plan := { s.plan with ring := [], void := 0 }, sec := { s.sec with erase := none } }
    let s := if st = 3 then s else { s with log := { s.log with slots := [none, none, none, none] } }
    if st ≠ 4 then s
    else
      let s := { s with log := { s.log with buf := [], ring := [] }, sec := { s.sec with image := [], key := none } }
      ((s.set 0x2003 1 0).set 0x1101 1 0).set 0x1101 2 0

/-- The start of the boot ROM at a supplies-good or a package reset: S0, S0_RECOVERY, or the wipe of a decommissioned
device, for which the dies are released (R505). -/
def State.boot (s : State) : State :=
  let s := ((s.eraseAreas).recordLost.newChallenge).bootPackage
  let s := ((s.set 0x1100 1 s.lifecycle).set 0x1102 3 s.sec.svnFloor).set 0x1000 5 0
  let s := { s with pkg := { s.pkg with booted := true } }
  let code := if s.sec.decom then 0 else s.imageCheck
  let s := s.set 0x1102 1 code
  let s := if s.sec.decom then ((List.range 14).foldl (fun s u => s.setDie u 2) (s.setStage 0)).set 0x5030 1 1
    else if code ≠ 0 then s.setStage 1
    else s.runImage.setStage 0
  match s.pkg.cause with
  | some c =>
    let s := s.logAdd { kind := 0x24, detail := leBytes 1 c }
    { s with pkg := { s.pkg with cause := none } }
  | none => s

/-- The identity key pair of the transition to PROVISIONED (R495): the private key is free, the public one reported. -/
def State.makeIdentity (s : State) : State :=
  let (s, k) := s.fresh 256
  ({ s with sec := { s.sec with key := some k } }).set 0x1101 1 (Config.mldsaPublic k % 2 ^ (8 * 1952))

/-- Step 2 of a transition (R503, R504): the fuses are blown, and the erasures of the new state are to follow. -/
def State.lcBlow (s : State) : State :=
  match s.sec.blow with
  | none => s
  | some goal =>
    let s := if s.lifecycle = 0 ∧ goal = 1 then s.makeIdentity else s
    { s with sec := { s.sec with lcCount := min 64 (s.sec.lcCount + 1), decom := s.sec.decom || goal == 4, erase := some goal,
                                 blow := none } }

/-- The package reset, and its start when RESET_N is released (R515). A transition under way goes on first (R503). -/
def State.resetPackage (s : State) (cause : Nat) : State :=
  let s := s.lcBlow.packageReset (some cause)
  if s.pkg.resetHeld then { s with pkg := { s.pkg with booted := false } } else s.boot

/-! ## Holds (R38-R41, R439) -/

/-- The assembly order of R36 and R40. -/
def asmRank (u : Nat) : Nat := if u = 4 ∨ u = 5 then u - 4 else if u < 4 then u + 2 else u

def State.cond (s : State) (u code b : Nat) : State := { s with pkg := { s.pkg with conds := s.pkg.conds ++ [(u, code, b)] } }

/-- Does condition `a` name the hold rather than `b` (R40)? -/
def condBefore (a b : Nat × Nat × Nat) : Bool :=
  let x := [asmRank a.1, a.2.1, a.2.2]
  let y := [asmRank b.1, b.2.1, b.2.2]
  decide (x < y)

/-- S1_HOLD_REASON for a condition (R39). -/
def holdReason (c : Nat × Nat × Nat) : Nat :=
  c.2.1 * 2 ^ 24 + (if c.1 < 15 then unitType c.1 * 2 ^ 20 + unitPos c.1 * 2 ^ 16 else 0) + c.2.2

/-- The package holds in S1 on the conditions met (R38, R40, R425): in a return the stacks go back to self-refresh. -/
def State.holdS1 (s : State) : State :=
  match s.pkg.conds with
  | [] => s
  | c :: r =>
    let first := r.foldl (fun a b => if condBefore b a then b else a) c
    let back := s.stage == 7
    let s := s.pkg.conds.foldl (fun s c => if c.1 < 15 then s.setDie c.1 6 else s) s
    let s := if back then
        (List.range 8).foldl (fun s h => if fld (s.get 0x5001 (h + 1)) 31 24 = 4 then s
          else s.set 0x5001 (h + 1) (setFld (s.get 0x5001 (h + 1)) 31 24 5)) s
      else s
    let v := holdReason first
    let s := (s.set 0x1030 1 v).setStage 3
    s.logAdd { kind := 0x70, unit := if first.1 < 15 then some first.1 else none, detail := leBytes 4 v }

/-- The stages that run the steps of R36: S1, and the return from retention. -/
def State.assembling (s : State) : Bool := s.stage == 2 || s.stage == 7

def State.asmStepNo (s : State) : Nat := s.get 0x2004 1

def State.setStep (s : State) (v : Nat) : State := s.set 0x2004 1 v

/-! ## Descriptors (R30, R34-R37) -/

namespace Ds
def dieType (d : Nat) : Nat := fld d 3 0
def pos (d : Nat) : Nat := fld d 7 4
def format (d : Nat) : Nat := fld d 23 20
def protoMin (d : Nat) : Nat := fld d 39 32
def protoMax (d : Nat) : Nat := fld d 47 40
def caps (d : Nat) : Nat := fld d 127 64
end Ds

/-- The descriptor that a unit's fuses hold. -/
def State.fuse (s : State) (u : Nat) : Nat := nth 0 s.pkg.fuses u

/-- A descriptor is read (R36, R37): `bad` when its CRC32 fails on three consecutive reads. -/
def State.readDesc (s : State) (u : Nat) (bad : Bool) : State :=
  let d := s.fuse u
  if bad then (if 4 ≤ u && u ≤ 6 then s.cond u 3 0 else s.markLost u 0)
  else
    let s := s.set 0x1010 (u + 1) d
    let s := if Ds.format d ≠ 1 then s.cond u 4 0 else s
    let s := if Ds.dieType d ≠ unitType u then s.cond u 7 0 else s
    if Ds.format d = 1 ∧ Ds.dieType d = unitType u then s.setDie u 3 else s

/-- The admitted units of a type (R34). -/
def State.admittedOf (s : State) (ty : Nat) : List Nat := (List.range 14).filter fun u => unitType u == ty && s.dieState u == 3

/-- CAPS_ENABLED of a type: the AND of CAPS over its admitted units; 0 when there is none. -/
def State.enabledCaps (s : State) (ty : Nat) : Nat :=
  match s.admittedOf ty with
  | [] => 0
  | u :: r => r.foldl (fun c u => c &&& Ds.caps (s.fuse u)) (Ds.caps (s.fuse u))

/-- The lowest capability of the mandatory mask that a unit lacks (R38, R40). -/
def missingCap (mask caps : Nat) : Option Nat := (List.range 64).find? fun b => bit mask b && !bit caps b

/-- R34 for one type: CAPS_ENABLED, then the check of every admitted unit against the mask. -/
def State.enableCaps (s : State) (ty : Nat) : State :=
  let mask := s.get 0x1021 ty
  let units := s.admittedOf ty
  let s := s.set 0x1020 ty (s.enabledCaps ty)
  units.foldl (fun s u => match missingCap mask (Ds.caps (s.fuse u)) with
    | some b => s.cond u 1 b
    | none => s) s

/-- The highest protocol version that every admitted die with Tenon links supports (R35). -/
def State.protoOf (s : State) : Option Nat :=
  let ds := ((List.range 7).filter fun u => s.dieState u == 3).map s.fuse
  (List.range 256).reverse.find? fun v => ds.all fun d => decide (Ds.protoMin d ≤ v) && decide (v ≤ Ds.protoMax d)

/-! ## The steps of R36 -/

/-- Is what a step waits for from a unit known: admitted, LOST, fenced since, or a condition? -/
def State.resolved1 (s : State) (u : Nat) : Bool :=
  (s.dieState u == 3) || (s.dieState u == 5) || (s.dieState u == 4) || s.pkg.conds.any fun c => c.1 == u

/-- A die leaves reset: its self-test runs and its PLL starts (R36, R438). -/
def State.release (s : State) (u : Nat) : State := if s.dieState u = 5 then s else (s.setDie u 2).startPll u

/-- Step 3 (R36, R37): the IOD's descriptor, the protocol version, the enabled sets. -/
def State.asmThree (s : State) : State :=
  let s := if s.resolved1 6 then s else (s.readDesc 6 s.pkg.iodDescBad)
  let s := match s.protoOf with
    | some v => linkNums.foldl (fun (s : State) n => s.set (0x1040 + n) 4 v) s
    | none => s.cond 15 2 0
  let s := ((s.enableCaps 1).enableCaps 2).enableCaps 3
  if s.admittedOf 1 = [] then s.cond 15 6 0 else s

/-- The links of step 4: those between admitted dies that do not end on the IOD. -/
def State.stepFour (s : State) : State :=
  (linkNums.filter fun n => (linkEnds n).2 != 6 && s.dieState (linkEnds n).1 == 3 && s.dieState (linkEnds n).2 == 3).foldl
    (fun s n => s.requestTraining n) s

/-- No link trains or waits to train. -/
def State.linksQuiet (s : State) : Bool := linkNums.all fun n => s.link n != 4 && s.link n != 5

/-- One step forward of the assembly, when everything the step waits for is known. -/
def State.asmNext (s : State) : State :=
  if !s.assembling then s
  else
    let wait (us : List Nat) (go : State → State) : State :=
      if !us.all s.resolved1 || !s.linksQuiet then s else if s.pkg.conds != [] then s.holdS1 else go s
    match s.asmStepNo with
    | 1 => wait [4, 5] fun s => [0, 1, 2, 3].foldl State.release (s.setStep 2)
    | 2 => wait [0, 1, 2, 3] fun s =>
      let s := (s.setStep 3).asmThree
      if s.pkg.conds = [] then (s.setStep 4).stepFour else s.holdS1
    | 4 => if !s.linksQuiet then s
      else (((List.range 7).map (· + 7)).foldl (fun s u => s.setDie u 2) s).setStep 5
    | _ => s

/-- The assembly goes on as far as it can. -/
def State.assemble1 (s : State) : State := s.asmNext.asmNext.asmNext

/-- S1 begins (R437, R438): MD0 and MD1 are released, the IOD's clocks start. -/
def State.beginAssembly (s : State) : State :=
  let s := { s with pkg := { s.pkg with iodDescBad := false } }
  let s := s.startPll 6
  let s := if s.dieState 6 = 1 ∨ s.dieState 6 = 2 then s.setDie 6 2 else s
  ((s.setStep 1).release 4).release 5

/-- S1_ENTRY (R437): the main rails are in range; the other conditions are the state's. -/
def execS1Entry (s : State) : Host.Outcome State Fault Refusal :=
  .next (if s.stage = 0 ∧ s.pkg.booted ∧ !s.pkg.resetHeld ∧ s.pkg.resets = [] ∧ s.get 0x1102 1 = 0 ∧ s.lifecycle ≠ 4
      ∧ s.get 0x2100 2 = 1 ∧ s.get 0x2003 1 = 0 ∧ !s.pkg.trip then
    (((s.set 0x2001 2 (setFld (s.get 0x2001 2) 8 0 0x1FF)).setStage 2).beginAssembly)
  else s)

/-- DIE_SELF_TEST_DONE (R438, R439): the die's link to the IOD trains, or it is LOST, or the package holds. The IOD's own result
says with it whether its three reads of its descriptor in step 3 will fail (R37). -/
def execDieSelfTestDone (u : Nat) (r : SelfTest) (s : State) : Host.Outcome State Fault Refusal :=
  .next (if !s.assembling ∨ 7 ≤ u ∨ s.dieState u ≠ 2 ∨ s.resolved1 u then s
    else if r = .failed then (if u < 4 then (s.markLost u 0).linksFell else s.cond u 0x0A 0).assemble1
    else
      let s := if s.pll u = 1 then s.setPll u 2 else s
      if u = 6 then { s with pkg := { s.pkg with iodDescBad := r == .descriptorBad } } else s.requestTraining (13 + u))

/-- PLL_LOCK_TIMEOUT (R438, R439). -/
def execPllLockTimeout (u : Nat) (s : State) : Host.Outcome State Fault Refusal :=
  .next (if !s.assembling ∨ 7 ≤ u ∨ s.pll u ≠ 1 ∨ s.dieState u ≠ 2 ∨ s.resolved1 u then s
    else (if u < 4 then ((s.setPll u 0).markLost u 0).linksFell else s.cond u 0x09 0).assemble1)

/-- What the end of a training means for the assembly (R37, R38): a die's descriptor is read over its link to the IOD. -/
def State.asmLink (s : State) (n : Nat) (crcBad : Bool) : State :=
  let u := (linkEnds n).1
  if n < 13 ∨ s.dieState u ≠ 2 then s
  else if s.link n ≠ 0 then s.readDesc u crcBad
  else if u < 4 then s.markLost u 0
  else s.cond u 5 0

/-- TENON_TRAINING_DONE (R24-R29): the waiting trainings go on, a die may be left without
a link, then the assembly goes on. -/
def execTenonTrainingDone (r : LinkRun) (crcBad : Bool) (s : State) : Host.Outcome State Fault Refusal :=
  .next (if !linkNums.contains r.link ∨ s.link r.link ≠ 4 then s
    else
      let s := s.linkTrained r
      let s := if s.assembling then s.asmLink r.link crcBad else s
      let s := s.linksFell
      if s.assembling then s.assemble1 else s)

/-- OPTICAL_ENGINES_TUNED (R36 step 5): the engines' descriptors are read and checked against their mask. -/
def execOpticalEnginesTuned (bad : List Nat) (s : State) : Host.Outcome State Fault Refusal :=
  .next (if !s.assembling ∨ s.asmStepNo ≠ 5 then s
    else
      let s := (List.range 7).foldl (fun s e => if s.dieState (7 + e) = 5 then s else s.readDesc (7 + e) (bad.contains e)) s
      let s := s.enableCaps 4
      if s.pkg.conds = [] then s.setStep 6 else s.holdS1)

/-- The open-site descriptor that the IOD builds (R43). -/
def siteDesc (ident : Nat) : Nat :=
  5 + fld ident 39 32 * 2 ^ 8 + fld ident 47 40 % 16 * 2 ^ 16 + 2 ^ 20 + fld ident 127 64 * 2 ^ 128

/-- Did the open-site link train (R42): Streaming protocol, a supported width and one of the supported rates? -/
def siteTrained (streaming : Bool) (width rate : Nat) : Bool :=
  streaming && (width == 8 || width == 16) && [4, 8, 12, 16, 24, 32].contains rate

/-- OPEN_SITE_DISCOVERY (R42-R44, R49): whether a partner is there, whether the link came up in Streaming protocol, its width
and rate in GT/s, its identity block. A link that trains is reported, and its die is admitted from 16 GT/s on. HBM training
follows. -/
def execOpenSiteDiscovery (partner streaming : Bool) (width rate ident : Nat) (s : State) : Host.Outcome State Fault Refusal :=
  .next (if !s.assembling ∨ s.asmStepNo ≠ 6 then s
    else
      let up := partner && siteTrained streaming width rate
      let ok := up && decide (16 ≤ rate) && decide (1 ≤ fld ident 55 48) && decide (fld ident 55 48 ≤ 64)
      let s := (s.set 0x1060 1 (if up then width / 8 else 0)).set 0x1060 2 (if up then rate else 0)
      let s := if ok then
          let s := { s with pkg := { s.pkg with ident := ident % 2 ^ 128, fuses := s.pkg.fuses.take 14 ++ [siteDesc ident] } }
          (s.set 0x1010 15 (siteDesc ident)).setDie 14 3
        else s.setDie 14 (if partner then 5 else 0)
      let train (s : State) (h : Nat) : State := s.set 0x5001 (h + 1) (setFld (s.get 0x5001 (h + 1)) 31 24 1)
      (List.range 8).foldl train (s.setStep 7))

/-- The package wipe begins (R261, R263). -/
def State.beginWipe (s : State) : State :=
  let s := { s with mem := [], ue := [], memsys := { s.memsys with lines := [], lost := [] } }
  s.set 0x5030 1 1

/-- The models resident through a retention have their pins read into their cache shares again (R308, R425). -/
def State.rereadPins (s : State) : State :=
  (s.holders.filter fun h => h.2.phase == .ready).foldl (fun s h =>
    let r := h.2.record
    let pins := (List.range 4).flatMap fun i =>
      (List.range (Rec.pinLen r i * mib / 64)).map fun j => s.partAddr h.1 (Rec.pinOff r i * mib + 64 * j)
    pins.foldl (fun s a => s.insertLine h.1 a false false) s) s

/-- HBM_TRAINING_DONE (R232, R425): for each stack a hold code of R232, 0 when it trained, and the lanes repaired. The wipe
follows; a return keeps HBM, unless the package was never wiped, and reads the pins again. -/
def execHbmTrainingDone (trained : List (Nat × Nat)) (s : State) : Host.Outcome State Fault Refusal :=
  .next (if !s.assembling ∨ s.asmStepNo ≠ 7 ∨ fld (s.get 0x5001 1) 31 24 ≠ 1 then s
    else
      let s := (List.range 8).foldl (fun s h =>
        let (code, lanes) := nth (0, 0) trained h
        let fail := code = 0x10 ∨ code = 0x11
        let st := if fail then 4 else if lanes = 0 then 2 else 3
        let s := s.set 0x5001 (h + 1) (st * 2 ^ 24 + min lanes 255 * 2 ^ 8 + s.get 0x5001 (h + 1) % 256)
        if fail then s.cond (4 + h / 4) code 0 else s) s
      if s.pkg.conds ≠ [] then s.holdS1
      else if s.stage = 7 ∧ s.get 0x5030 1 = 2 then s.rereadPins.setStep 8
      else s.beginWipe)

/-- WIPE_DONE (R232, R262, R263, R505): locations written again, rows repaired, stacks with a line that still fails, which
STACK_STATE names. The dies of a decommissioned device go back to reset. -/
def execWipeDone (retried : Nat) (repairs : List HbmRow) (bad : List Nat) (s : State) : Host.Outcome State Fault Refusal :=
  .next (if s.get 0x5030 1 ≠ 1 then s
    else
      let s := (s.wipeReport retried repairs).set 0x5030 1 (if bad = [] then 2 else 3)
      if s.sec.decom then (List.range 14).foldl (fun s u => s.setDie u 1) s
      else if !s.assembling then s
      else if bad = [] then s.setStep 8
      else (bad.foldl (fun s h => (s.set 0x5001 (h % 8 + 1) (setFld (s.get 0x5001 (h % 8 + 1)) 31 24 4)).cond (4 + h % 8 / 4) 0x12 0)
        s).holdS1)

/-- S1_TIMEOUT (R439): 3.5 s. -/
def execS1Timeout (s : State) : Host.Outcome State Fault Refusal :=
  .next (if s.stage = 2 then (s.cond 15 0x0B 0).holdS1 else s)

/-- A condition of R439 that ends the assembly at once, with the conditions met so far. -/
def State.holdNow (s : State) (u code : Nat) : State := (s.cond u code 0).holdS1

/-! ## The passing of time -/

/-- Steps 2 and 3 of a life-cycle transition (R503): the fuses are blown, and the package resets. -/
def State.lcGoesOn (s : State) : State := if s.sec.blow.isSome then s.lcBlow.resetBegin 6 0 5 else s

/-- An idle Pavane cycle of 40 ns: time passes, a buffered fault-log entry reaches the NVS ring (R479), entries that spell no command
and stand next in their lists complete (R14, R136), a life-cycle transition goes on (R503), and the contests of the cycle are over
(R410). -/
def State.tick (s : State) : State :=
  let s := s.logDrain.refuseAllUnknown.lcGoesOn
  { s with time := s.time + 1, contests := [] }

end Sys2Proof.Machine
end

