-- ==== Sys2Proof/Machine/Faults.lean ====
section
/-! DEFINITION. Timeouts and aborts, losses of clocks and dies, crash dumps, rejoins and replays (R462-R484), and the
board's reset input and feeds (R419, R436, R515). -/

namespace Sys2Proof.Machine

/-! ## TIMEOUT and ABORT_LIMIT (R462, R463, R466) -/

/-- A command whose abort some cores do not acknowledge: the others have released what they held. -/
def Flight.unacked (f : Flight) (bad : List Nat) : Flight :=
  { f with cores := bad, aborting := true, holds := f.holds.filter fun h => bad.contains h.core }

/-- A core command's abort: every slot stops; a barrier outstanding in its context completes with the fault flag (R463).
`unacked` are the cores that do not acknowledge. -/
def State.abortCores (s : State) (f : Flight) (unacked : List Nat) : State :=
  let bad := f.cores.filter unacked.contains
  if f.kind = .replay then
    if bad = [] then s.replayEnd f.ctx (some .timeout)
    else s.modFlight f.id fun f => f.unacked bad
  else
    let s := s.faultBarrier f.ctx .timeout
    match s.flight f.id with
    | none => s
    | some f => if bad = [] then s.finish f [.timeout] else s.modFlight f.id fun f => f.unacked bad

/-- The abort of a command that another engine holds: it stops under its chapter's rules. -/
def State.abortEngine (s : State) (f : Flight) : State :=
  match f.engine with
  | .fabric => s.collTimeout f
  | .planer => (s.cutFlight f .timeout).planerNext
  | _ => s.cutFlight f .timeout

/-- TIMEOUT (R318, R462): the timers stop in retention (R423). `stuck`: the engine does not stop within its limit. -/
def execTimeout (flight : Nat) (unacked : List Nat) (stuck : Bool) (s : State) : Host.Outcome State Fault Refusal :=
  .next (match s.flight flight with
    | none => s
    | some f =>
      if s.retaining ∨ f.aborting then s
      else if f.engine = .cores then s.abortCores f unacked
      else if stuck then s.modFlight f.id fun f => { f with aborting := true }
      else s.abortEngine f)

/-- A restart of an IOD engine (R461); the numbers of engine kinds and engines are not given (log 5). -/
def State.engineRestart (s : State) : State :=
  let (s, v) := s.fresh 16
  (s.bump 0x803E 6 1).logAdd { kind := 0x25, detail := leBytes 2 v }

/-- ABORT_LIMIT (R462, R466): the groups of the cores that did not acknowledge, or the Planer half that did not stop, are
reset; another engine is restarted. -/
def execAbortLimit (flight half : Nat) (s : State) : Host.Outcome State Fault Refusal :=
  .next (match s.flight flight with
    | none => s
    | some f =>
      if s.retaining ∨ !f.aborting then s
      else
        let s := s.bump 0x803E 2 1
        if f.engine = .planer then
          let s := s.resetBegin 2 (half % 2) 1
          match s.flight flight with
          | some f => s.cutFlight f .timeout
          | none => s
        else if f.engine = .cores ∧ !f.isStream true ∧ !f.isStream false then
          (firstListings (f.cores.map groupOf)).foldl (fun s g => s.resetBegin 1 g 1) s
        else
          let s := s.engineRestart
          if f.kind = .replay then s.replayEnd f.ctx (some .timeout)
          else if f.engine = .fabric then s.collTimeout f else s.cutFlight f .timeout)

/-! ## Losses (R431, R473, R477) -/

/-- A die or engine is fenced for a cause; without the IOD the package starts again. -/
def State.loseUnit (s : State) (u cause : Nat) : State :=
  if u < 4 then s.resetBegin 3 u cause
  else if u < 6 then s.resetBegin 4 (u - 4) cause
  else if u = 6 then s.drainJournal.resetBegin 6 0 6
  else if u < 14 then s.resetBegin 5 (u - 7) cause
  else s

/-- The stages in which dies run: S1 and S2 (R427). -/
def State.diesRun (s : State) : Bool := s.stage == 2 || s.inS2

/-- CLOCK_LOSS (R431): a clock of a RUNNING domain deviates or stops. -/
def execClockLoss (u : Nat) (s : State) : Host.Outcome State Fault Refusal :=
  .next (if s.diesRun ∧ s.dieState u = 3 ∧ (7 ≤ u ∨ s.pll u = 2) then s.loseUnit u 2 else s)

/-- DIE_SILENCE (R473): no answer to the sideband polls; the dies that deep idle powers down are not polled. -/
def execDieSilence (u : Nat) (s : State) : Host.Outcome State Fault Refusal :=
  .next (if s.diesRun ∧ s.dieState u = 3 ∧ (6 ≤ u ∨ s.get 0x2002 1 ≠ 2) then s.loseUnit u 3 else s)

/-- IOD_LOSS (R477): the island drains the journal buffer and resets the package. -/
def execIodLoss (s : State) : Host.Outcome State Fault Refusal :=
  .next (if s.pkg.booted then s.drainJournal.resetBegin 6 0 6 else s)

/-! ## Crash dumps (R482-R484) -/

/-- The sections of a dump: type, unit as the subindex of 0x1010, content; the log tail is the log's own bytes. -/
def State.dumpSections (s : State) (t i : Nat) : List (Nat × Nat × List Byte) :=
  let die := match domUnit t i with
    | some u => u + 1
    | none => 7
  let held := s.logHeld
  let tail := (held.drop (held.length - 256)).flatMap (·.bytes)
  let unit (ty : Nat) : Nat := if ty = 3 ∨ ty = 4 ∨ ty = 5 then die else 7
  ((List.range 9).map fun k => (k + 1, unit (k + 1), Config.dumpSection s.log.dumpSeq (k + 1) (unit (k + 1)))) ++ [(10, 7, tail)]

/-- The caps of R484 in bytes. -/
def sectionCap (ty : Nat) : Nat := nth 0 [0, 131072, 262144, 131072, 262144, 16384, 65536, 16384, 131072, 32768, 16384] ty

/-- One section cut at its cap, with its flags: COMPLETE, UNIT_SILENT, TRUNCATED. -/
def sectionCut (silent : List Nat) (x : Nat × Nat × List Byte) : Nat × Nat × Nat × List Byte :=
  let cap := sectionCap x.1
  if silent.contains x.2.1 then (x.1, x.2.1, 2, [])
  else (x.1, x.2.1, if cap < x.2.2.length then 4 else 1, x.2.2.take cap)

/-- The section table, from the offset of its first section on. -/
def sectionTable : Nat → List (Nat × Nat × Nat × List Byte) → List Byte
  | _, [] => []
  | off, (ty, u, fl, bs) :: r =>
    leBytes 2 ty ++ leBytes 1 u ++ leBytes 1 fl ++ leBytes 4 off ++ leBytes 4 bs.length ++ leBytes 4 (crc32 bs)
      ++ sectionTable (off + bs.length) r

/-- The bytes of a dump (R483). -/
def State.dumpBytes (s : State) (r : Reset) (silent : List Nat) : List Byte :=
  let secs := (s.dumpSections r.domType r.domIndex).map (sectionCut silent)
  let start := 64 + 16 * secs.length
  let body := secs.flatMap fun x => x.2.2.2
  let head := leBytes 4 0x44584431 ++ leBytes 2 1 ++ leBytes 2 secs.length ++ leBytes 4 s.log.dumpSeq
    ++ leBytes 4 (s.get 0x6001 2) ++ leBytes 8 s.us ++ leBytes 1 r.domType ++ leBytes 1 r.domIndex ++ leBytes 1 r.cause
    ++ leBytes 1 s.stage ++ (List.range 15).flatMap (fun u => leBytes 1 (s.tag u)) ++ leBytes 5 0
    ++ leBytes 4 (start + body.length) ++ leBytes 4 r.logSeq ++ leBytes 4 0
  head ++ leBytes 4 (crc32 head) ++ sectionTable start secs ++ body

/-- The oldest slot that DUMP_LOCK leaves free: an empty one first, then the lowest DUMP_SEQ. -/
def State.dumpSlot (s : State) : Option Nat :=
  let age (k : Nat) : Nat := match nth none s.log.slots k with
    | some d => d.seq + 1
    | none => 0
  ((List.range 4).filter fun k => !bit (s.get 0x6040 2) k).foldl (fun b k => match b with
    | none => some k
    | some j => if age k < age j then some k else some j) none

/-- A dump is written to its slot, or discarded (R482). -/
def State.dump (s : State) (r : Reset) (silent : List Nat) : State :=
  let bs := s.dumpBytes r silent
  let seq := s.log.dumpSeq
  let slot := s.dumpSlot
  let s := { s with log := { s.log with dumpSeq := (seq + 1) % 2 ^ 32 } }
  let s := match slot with
    | some k =>
      let d : Dump := ⟨seq, r.domType, r.domIndex, r.cause, bs⟩
      let s := { s with log := { s.log with slots := modNth s.log.slots k fun _ => some d } }
      let s := (s.bump 0x803E 0x0E 1).set 0x6040 1 ((s.get 0x6040 1 + 1) % 2 ^ 32)
      s.set 0x6001 1 (setFld (s.get 0x6001 1) 127 96 seq)
    | none => s.bump 0x803E 0x0F 1
  s.logAdd { kind := 0x71, detail := leBytes 4 (slot.getD 0xFF) ++ leBytes 4 seq }

/-- What a reset does to its domain once the dump is collected (R461, R478). -/
def State.resetDomain (s : State) (r : Reset) : State :=
  match r.domType with
  | 1 => s.wipeCores fun k => groupOf k == r.domIndex
  | 3 => s.wipeCores fun k => dieOfCore k == r.domIndex
  | 4 => (s.clearCache r.domIndex).wipeStacks r.domIndex
  | _ => s

/-- CRASH_DUMP (R482): the dump is collected, the reset proceeds. `silent`: units that did not answer. -/
def execCrashDump (type index : Nat) (silent : List Nat) (s : State) : Host.Outcome State Fault Refusal :=
  .next (match s.pkg.resets.find? fun r => r.domType == type && r.domIndex == index && r.step == 0 with
    | none => s
    | some r =>
      let s := s.dump r silent
      if type = 6 then s.resetPackage r.cause
      else
        let done (x : Reset) : Reset := if x.domType = type ∧ x.domIndex = index then { x with step := 1 } else x
        { s with pkg := { s.pkg with resets := s.pkg.resets.map done } }.resetDomain r)

/-! ## Rejoins (R467, R474-R477) -/

/-- The contexts whose commands the domain's reset interrupted become suspects (R467). -/
def State.formSuspects (s : State) (t i : Nat) : State :=
  let isMine (x : Interrupted) : Bool := x.domType == t && x.domIndex == i
  let mine := s.sched.interrupted.filter isMine
  let ctxs := (List.range 64).filter fun c => mine.any fun x => x.ctx == c
  let s := { s with sched := { s.sched with
    interrupted := s.sched.interrupted.filter (fun x => !isMine x), suspects := s.sched.suspects ++ mine } }
  let s := ctxs.foldl (fun (s : State) c => s.setSuspect c 1) (s.bump 0x803E 8 mine.length)
  let bitmap := (ctxs.map fun c => 2 ^ c).foldl (· + ·) 0
  s.logAdd { kind := 0x22, unit := domUnit t i, detail := leBytes 8 bitmap }

/-- A domain that never rejoins leaves no suspect (R467). -/
def State.dropInterrupted (s : State) (t i : Nat) : State :=
  let mine (x : Interrupted) : Bool := domCovers t i x.domType x.domIndex
  let gone := (s.sched.suspects.filter mine).map (·.ctx)
  let s := { s with sched := { s.sched with
    interrupted := s.sched.interrupted.filter (fun x => !mine x), suspects := s.sched.suspects.filter fun x => !mine x } }
  let s := gone.foldl (fun (s : State) c => s.setSuspect c (if s.sched.suspects.any (fun x => x.ctx == c) then 1 else 0)) s
  s.sweepLists.codecRelease

/-- The checks of a die's descriptor at its rejoin (R474). -/
def State.rejoinOk (s : State) (u desc : Nat) : Bool :=
  let en := s.get 0x1020 (unitType u)
  let v := s.get (0x1040 + 13 + u) 4
  Ds.format desc == 1 && Ds.dieType desc == unitType u && Ds.pos desc == unitPos u && (missingCap en (Ds.caps desc)).isNone
    && (decide (6 ≤ u) || (decide (Ds.protoMin desc ≤ v) && decide (v ≤ Ds.protoMax desc)))

/-- A domain is in service again (R474, R476, R477). -/
def State.rejoined (s : State) (t i desc : Nat) (runs : List LinkRun) : State :=
  let s := { s with pkg := { s.pkg with resets := s.pkg.resets.filter fun r => !(r.domType == t && r.domIndex == i) } }
  let s := if t < 3 then s else
    match domUnit t i with
    | none => s
    | some u =>
      let fuses := modNth s.pkg.fuses u fun _ => desc
      let s := { s with pkg := { s.pkg with fuses := fuses } }
      let s := ((s.set 0x1010 (u + 1) desc).setDie u 3)
      let s := if t = 5 then s else (s.startPll u).setPll u 2
      let s := runs.foldl State.linkTrained s
      if t ≠ 5 then s
      else if i = 6 then s.trainHost s.inS2
      else if s.portRole i ≠ 0 && s.portState i = 4 then s.trainPort i else s
  (s.formSuspects t i).planerNext

/-- A rejoin failure (R474-R477): the reset is attempted again, until REJOIN_LIMIT attempts within 600 s have failed. -/
def State.rejoinFails (s : State) (t i : Nat) : State :=
  let s := s.bump 0x803E 0x0C 1
  let all := (s.pkg.failures ++ [(t, i, s.time)]).filter fun f => decide (s.time < f.2.2 + 15000000000)
  let s := { s with pkg := { s.pkg with failures := all } }
  let n := (all.filter fun f => f.1 == t && f.2.1 == i).length
  if n < s.get 0x6006 1 then
    let cause := ((s.pkg.resets.find? fun r => r.domType == t && r.domIndex == i).map (·.cause)).getD 0
    let s := { s with pkg := { s.pkg with resets := s.pkg.resets.filter fun r => !(r.domType == t && r.domIndex == i) } }
    s.resetBegin t i cause
  else
    match t with
    | 1 => s.resetBegin 3 (i / 10) 4
    | 2 => s.resetBegin 4 i 4
    | 4 => s.resetBegin 6 0 9
    | _ =>
      let s := { s with pkg := { s.pkg with resets := s.pkg.resets.filter fun r => !(r.domType == t && r.domIndex == i) } }
      match domUnit t i with
      | none => s
      | some u =>
        let s := (s.markLost u n).dropInterrupted t i
        (if u < 4 then s.retireLost u else s).linksFell

/-- The trainings of a rejoin that belong to the die (R474). -/
def rejoinRuns (t i : Nat) (runs : List LinkRun) : List LinkRun :=
  match domUnit t i with
  | some u => if t = 3 ∨ t = 4 then runs.filter fun r => (linksOf u).contains r.link else []
  | none => []

/-- Is a link that shares a die with one of the rejoining die's links still training? Then the rejoin's trainings have not all
had their turn (R25, R474), and its steps cannot have ended. -/
def State.rejoinBusy (s : State) (t i : Nat) : Bool :=
  (t == 3 || t == 4) && (domUnit t i).any fun u => (linksOf u).any s.linkBusy

/-- REJOIN (R474): the self-test, PLL lock, wipe and trainings passed or not; the descriptor read, the trainings' results,
the wipe's retries and repairs. Each training is recorded, whatever becomes of the die (R28). -/
def execRejoin (type index : Nat) (pass : Bool) (desc : Nat) (runs : List LinkRun) (retried : Nat) (repairs : List HbmRow)
    (s : State) : Host.Outcome State Fault Refusal :=
  .next (if !s.pkg.resets.any (fun r => r.domType == type && r.domIndex == index && r.step == 1) || s.rejoinBusy type index then s
    else
      let mine := rejoinRuns type index runs
      let s := s.wipeReport retried repairs
      let ok := match domUnit type index with
        | none => false
        | some u => decide (type < 3) || (s.rejoinOk u desc
            && (decide (7 ≤ u) || mine.any fun r => widthOf r.failedAB != 0 && widthOf r.failedBA != 0))
      if pass && ok then s.rejoined type index (desc % 2 ^ 480) mine else (mine.foldl State.recordTraining s).rejoinFails type index)

/-! ## Replays (R468-R470) -/

/-- The entries that the replay of a context re-executes, in order, each with its list: those of its interrupted lists that were
dispatched on ENGINE 0, COLLECTIVE aside; a command dispatched by itself stands for its list. An entry that a frozen layer
skipped at its dispatch ran on no core and stays skipped (R146, R147, R160). -/
def State.replayEntries (s : State) (c : Nat) : List (Nat × Nat × Desc) :=
  let mine := s.sched.suspects.filter fun x => x.ctx == c
  let lists := s.sched.lists.filter fun l => mine.any fun x => x.list == l.id
  let own := (mine.filter fun x => x.list == 0).map fun x => (0, x.hdr, x.desc)
  lists.flatMap (fun l => (((l.entries.take l.next).zipIdx).filter fun e =>
    fld e.1.1 1 0 == 0 && Cmd.opcode e.1.2.toNat != 9 && !l.skipped.contains e.2).map fun e => (l.id, e.1.1, e.1.2)) ++ own

/-- One entry re-executed: its outcome joins `replayFound`, or it stays in flight (a core hangs, a barrier waits). A SQUEEZE or
EXPAND binds its generation again: the reference of the interrupted command went with its final completion (R221). -/
def State.replayOne (s : State) (c list hdr : Nat) (desc : Desc) (env : Env) : State :=
  let n := desc.toNat
  let cores := s.coresOf c desc
  let all := cores.zipIdx
  let stream := Cmd.opcode n == 6 && (Cmd.mode n == 2 || Cmd.mode n == 3)
  let slot := if stream && binds n then s.activeSlot (Mv.gen n) else none
  let good := hdrOk hdr 0 && s.setOk c cores
    && (if stream then codecMoveOk n (s.ctx c).tensors && (!binds n || slot.isSome) else descOk n (s.ctx c).tensors)
  let id := s.sched.nextId
  let ill := if cores.any (fun k => env.illegal.contains k && !env.hang.contains k) then [Status.illegalInstruction] else []
  let f := Flight.mk id .cores .replay c [] hdr desc list cores ill false s.time []
  if !good then (s.addFlight f).finish f [.descriptorInvalid]
  else
    let ok := s.contestOk c cores (Cmd.opcode n) (all.flatMap fun p => s.reach c n p.1 p.2)
    let s := ((s.wake cores).applyEnv env cores (Cmd.opcode n == 1 || Cmd.opcode n == 2) ok).addFlight f
    let pos := all.filter fun p => !env.illegal.contains p.1 && !env.hang.contains p.1
    if Cmd.opcode n = 7 then
      ((s.modFlight id fun f => { f with cores := cores.filter fun k => !env.illegal.contains k }).arrive f pos).tryRelease c
    else
      let s := { s with codec := { s.codec with refs := s.codec.refs ++ (slot.map fun k => (id, k)).toList } }
      let (s, st) := if stream then pos.foldl (fun a p =>
          let (s, t) := a.1.streamOnCore f p.1 p.2
          (s, a.2 ++ t)) (s, [])
        else s.runCores env id c n pos
      let hung := all.filter fun p => env.hang.contains p.1
      if hung = [] then s.finish f st
      else
        let (s, holds) := hung.foldl (fun (y : State × List CoreHold) p =>
          let (s, h) := y.1.hang env c n p.1 p.2
          (s, y.2 ++ [h])) (s, [])
        s.modFlight id fun f => { f with cores := hung.map (·.1), found := f.found ++ st, holds := holds }

/-- The entries in turn, until one ends badly or hangs. -/
def State.replayRun (s : State) (c : Nat) : List (Nat × Nat × Desc) → List Env → State
  | [], _ => s
  | (l, h, d) :: r, envs =>
    let s := s.replayOne c l h d (envs.headD {})
    let bad := s.sched.replayFound.any (fun st => !st.valid)
      || s.sched.flights.any fun f => f.kind == .replay && f.ctx == c && Cmd.opcode f.desc.toNat != 7
    if bad then s else s.replayRun c r envs.tail

/-- The next suspect to replay: by class, then context number (R468). -/
def State.nextSuspect (s : State) : Option Nat :=
  let cand := (List.range 64).filter fun c => fld (s.get 0x6003 (c + 1)) 31 24 == 1
    && s.sched.suspects.all fun x => x.ctx != c || !s.pkg.resets.any fun r => r.domType == x.domType && r.domIndex == x.domIndex
  let cls (c : Nat) : Nat := Rec.cls (s.ctx c).record
  cand.foldl (fun b c => match b with
    | none => some c
    | some a => if cls c < cls a then some c else some a) none

/-- May the replay begin: the context's dispatched commands have completed, no other command executes on the domain, no
replay runs? -/
def State.replayReady (s : State) (c : Nat) : Bool :=
  let dom := s.sched.suspects.filter fun x => x.ctx == c
  s.inS2 && !s.sched.flights.any fun f => f.kind == .replay || f.ctx == c
    || (f.engine == .cores && Cmd.opcode f.desc.toNat != 7
        && f.cores.any fun k => dom.any fun x => inDomain x.domType x.domIndex k)

/-- SUSPECT_REPLAY (R468, R469): the replay of the next suspect; `envs` is what the silicon does to each entry. -/
def execSuspectReplay (envs : List Env) (s : State) : Host.Outcome State Fault Refusal :=
  .next (match s.nextSuspect with
    | none => s
    | some c =>
      if !s.replayReady c then s
      else
        let es := s.replayEntries c
        let s := { s with sched := { s.sched with replayFound := [] } }
        let groups := s.sched.lists.filter fun l => es.any fun e => e.1 == l.id
        let s := groups.foldl (fun s l => s.putRows l) (s.setSuspect c 2)
        let s := s.replayRun c es envs
        match s.sched.replayFound.find? fun st => !st.valid with
        | some st => s.replayEnd c (some st)
        | none => if s.sched.flights.any fun f => f.kind == .replay && f.ctx == c then s else s.replayEnd c none)

/-! ## The board's reset input and feeds (R419, R436, R515) -/

/-- RESET_N (R515): asserted for 1 ms or longer; a start waits for its release. -/
def execResetN (s : State) : Host.Outcome State Fault Refusal :=
  .next (
    let s := { s with pkg := { s.pkg with resetHeld := true } }
    if s.pkg.booted then s.resetBegin 6 0 8 else s)

/-- SUPPLIES_GOOD (R436, R510): RESET_N is released with an always-on feed in range; `rails` is RAIL_STATUS, `nvsBad` an
uncorrectable read of the stored image (R490). -/
def execSuppliesGood (rails : Nat) (nvsBad : Bool) (s : State) : Host.Outcome State Fault Refusal :=
  .next (if !s.pkg.resetHeld ∨ (!bit rails 9 ∧ !bit rails 10) then s
    else
      let s := { s with time := 0, pkg := { s.pkg with resetHeld := false } }
      let s := (s.set 0x2001 2 (rails % 2 ^ 11)).set 0x2001 1 (if bit rails 9 then 0 else 1)
      if s.pkg.booted then s else ({ s with sec := { s.sec with imageBad := nvsBad } }).boot)

/-- Both always-on feeds are gone (R419): what the NVS does not hold is lost, and the next start is a cold one. -/
def State.losePower (s : State) : State :=
  let s := s.modPlan fun p => { p with halves := [{}, {}] }
  let s := { s with log := { s.log with buf := [] }, pkg := { s.pkg with resetHeld := true, trip := false } }
  let s := s.packageReset none
  let measured (key : Nat) : Bool :=
    let i := key / 256
    i == 0x2001 || i == 0x2100 || i == 0x2200 || i == 0x2203 || i == 0x5003
  { s with obj := s.obj.filter fun e => !measured e.1 }

/-- POWER_LOSS (R419). -/
def execPowerLoss (s : State) : Host.Outcome State Fault Refusal := .next s.losePower

end Sys2Proof.Machine
end

