-- ==== Sys2Proof/Machine/Power.lean ====
section
/-! DEFINITION. Retention and the feeds (R419-R425), clocks (R427-R432), idle states (R433-R435), temperature, power and
light (R512-R519), test access (R523). -/

namespace Sys2Proof.Machine

/-! ## Retention entry (R420-R423) -/

/-- The samples that retention cuts off (R423): open claims become holes. -/
def State.lateClaims (s : State) : State := s.intake.batches.foldl State.lateAll s

/-- Video streams lose their decoder state (R423): the access units decoded for the frames claimed so far. -/
def State.loseVideo (s : State) : State :=
  let gone (x : IStream) : Nat := (Config.videoOrder x.units.1 x.units.2).take x.claim |>.foldl (fun a i => max a (i + 1)) x.lostAt
  let mark (e : Nat × IStream) : Nat × IStream := if e.2.kind = 4 then (e.1, { e.2 with lostAt := gone e.2 }) else e
  { s with intake := { s.intake with streams := s.intake.streams.map mark } }

/-- Resets and replays under way are abandoned (R478): a running replay is counted, and no context stays a suspect. -/
def State.dropResets (s : State) : State :=
  let run := s.sched.flights.any fun f => f.kind == .replay
  let s := if run then s.bump 0x803E 0x0B 1 else s
  let left := s.sched.flights.filter fun (f : Flight) => f.kind == .normal
  let s := { s with sched := { s.sched with interrupted := [], suspects := [], flights := left } }
  let s := { s with pkg := { s.pkg with resets := s.pkg.resets.filter fun r => r.domType == 6 } }
  (List.range 64).foldl (fun (s : State) c => s.setSuspect c 0) s

/-- The core commands and collectives that will complete with DIE_LOST once S2 is restored (R423). -/
def State.parkWork (s : State) : State :=
  let cut (f : Flight) : Bool := f.engine == .cores || f.engine == .fabric
  let ids := (s.sched.flights.filter cut).map (·.id)
  let parked := mapIf cut (fun f => { f with cores := [], aborting := false }) s.sched.flights
  let s := { s with sched := { s.sched with flights := parked }, fab := { s.fab with coll := none, early := [] } }
  let s := { s with cores := { s.cores with barriers := [] }, codec := { s.codec with waitSq := [], waitEx := [] } }
  { s with pkg := { s.pkg with afterRetention := s.pkg.afterRetention ++ ids } }

/-- The Dovetail ports go dark and keep their roles. -/
def State.portsDark (s : State) : State :=
  (List.range 6).foldl (fun s p => (s.portLeaves p 0).set 0x3100 (p + 1) 0) s

/-- The pair is left (R421, R423): PAIR_LEAVE goes out, mirrored writes are answered, PAIR_STATE passes to OFF. -/
def State.leavePair (s : State) : State :=
  let st := s.pairState
  if st = 0 then s
  else
    let s := if st = 1 then s else s.toPartner { type := 4 }
    let s := s.mirrorFlush
    let s := s.modPair fun p => { p with hello := none, sent := false, refillFailed := [], refillStreams := [], localClaims := [],
                                         partnerClaims := [] }
    (s.setPair 0 0).set 0x3110 1 0

/-- Retention is entered (R420-R423); `rail`: a main rail has left its range. -/
def State.enterRetention (s : State) (rail : Bool) : State :=
  let from1 := s.stage != 4
  let s := ((s.setStage 5).set 0x2002 1 3).bump 0x803C 2 1
  let s := { s with pkg := { s.pkg with wroteBack := false, railLost := rail, fromS1 := from1, conds := [] } }
  let s := s.dropResets.parkWork.lateClaims.loseVideo
  let s := (s.leavePair.planerRetain).portsDark
  let s := { s with pkg := { s.pkg with exiting := false } }
  (s.set 0x2002 2 0).trainSingle

/-- The stages from which the events of R420 enter retention: S1, S2, and the return, which runs the steps of S1. -/
def State.canRetain (s : State) : Bool := s.stage == 2 || s.stage == 4 || s.stage == 7

/-- The log entry of a switch-over (R419, R480). -/
def State.logSwitch (s : State) : State :=
  let s := s.logAdd { kind := 0x40, detail := leBytes 1 (s.get 0x2001 3) }
  { s with pkg := { s.pkg with switchLog := false } }

/-- SWITCHOVER (R419): to VAO_BACK, or no power at all. -/
def execSwitchover (s : State) : Host.Outcome State Fault Refusal :=
  .next (if s.pkg.resetHeld || s.get 0x2001 1 = 1 then s
    else
      let s := s.set 0x2001 2 (setBit (s.get 0x2001 2) 9 false)
      if !bit (s.get 0x2001 2) 10 then s.losePower
      else
        let s := (s.set 0x2001 1 1).bump 0x803C 1 1
        if s.canRetain then
          let s := s.enterRetention false
          { s with pkg := { s.pkg with switchLog := true } }
        else if s.stage = 5 then { s with pkg := { s.pkg with switchLog := true } }
        else s.logSwitch)

/-- VAO_MAIN_RESTORED (R419). -/
def execVaoMainRestored (s : State) : Host.Outcome State Fault Refusal :=
  .next (if s.pkg.resetHeld then s else (s.set 0x2001 2 (setBit (s.get 0x2001 2) 9 true)).set 0x2001 1 0)

/-- The die that a main rail supplies; 15 for VDDQ_HBM and VDD_OPT (R439). -/
def railDie (rail : Nat) : Nat := if rail < 7 then rail else 15

/-- A main rail out of its range (R420, R422, R439). -/
def State.railOut (s : State) (rail : Nat) : State :=
  let s := s.set 0x2001 2 (setBit (s.get 0x2001 2) rail false)
  if s.stage = 4 then s.enterRetention true
  else if s.assembling then s.holdNow (railDie rail) 0x08
  else if s.stage = 5 ∧ !s.pkg.wroteBack then { s with pkg := { s.pkg with railLost := true } }
  else s

/-- MAIN_RAIL_OUT_OF_RANGE (R420). -/
def execMainRailOutOfRange (rail : Nat) (s : State) : Host.Outcome State Fault Refusal :=
  .next (if rail < 9 then s.railOut rail else s)

/-- PMB_ALERT (R512): the regulator is read. -/
def execPmbAlert (rail : Nat) (out : Bool) (s : State) : Host.Outcome State Fault Refusal :=
  .next (if rail < 7 && out then s.railOut rail else s)

/-- WRITE_BACK_COMPLETE (R264, R421, R422, R424): the stacks are in self-refresh, the dies powered down, the journal in the
NVS, the result known. -/
def execWriteBackComplete (s : State) : Host.Outcome State Fault Refusal :=
  .next (if s.stage ≠ 5 then s
    else
      let s := s.memsys.lines.foldl State.writeBack s
      let s := { s with memsys := { s.memsys with lines := [], trackers := [], misses := [], tgens := [] } }
      let s := { s with pkg := { s.pkg with wroteBack := true } }
      let self (s : State) (h : Nat) : State :=
        let v := s.get 0x5001 (h + 1)
        if fld v 31 24 = 2 ∨ fld v 31 24 = 3 then s.set 0x5001 (h + 1) (setFld v 31 24 5) else s
      let s := (List.range 8).foldl self s
      let s := (List.range 6).foldl (fun s u => if s.dieState u = 5 then s else s.setDie u 4) s
      let s := linkNums.foldl State.dropLink s
      let s := (List.range 7).foldl State.purgePaths s
      let s := (List.range 40).foldl (fun (s : State) g => s.setGroupClock g 0) s
      let s := (List.range 7).foldl (fun (s : State) p => s.setPll p 0) s
      let s := { s with pkg := { s.pkg with wakeWait := [], throttled := [] } }
      let s := s.drainJournal
      let s := if s.pkg.railLost then (s.set 0x2001 3 2).bump 0x803C 3 1 else s.set 0x2001 3 1
      let s := if s.pkg.switchLog then s.logSwitch else s
      (s.setStep 0).setStage 6)

/-- RETURN_FROM_RETENTION (R422, R425): the main rails are in range again; an incomplete retention ends in a package
reset. The return runs the steps of S1, and POWER_STATE reads STARTING (DEDUCED, log 27). -/
def execReturnFromRetention (s : State) : Host.Outcome State Fault Refusal :=
  .next (if s.stage ≠ 6 ∨ s.get 0x2001 1 ≠ 0 ∨ s.pkg.trip then s
    else
      let s := s.set 0x2001 2 (setFld (s.get 0x2001 2) 8 0 0x1FF)
      if s.get 0x2001 3 = 2 then s.resetBegin 6 0 7
      else
        let s := (List.range 6).foldl (fun (s : State) u => (if s.dieState u = 5 then s else s.setDie u 1).tagUp u) s
        let s := s.wipeWhere fun a => decide (poolFlat ≤ a)
        let s := { s with cores := {} }
        ((s.setStage 7).set 0x2002 1 4).beginAssembly)

/-! ## S2 (R423, R440) -/

/-- STAGE reads S2: what retention cut off completes, the Dovetail ports train as their roles are written, the host port
trains in FULL. -/
def State.enterS2 (s : State) : State :=
  let s := (s.setStep 0).setStage 4
  let s := (s.set 0x2002 1 1).powerUpdate
  let ids := s.pkg.afterRetention
  let s := { s with pkg := { s.pkg with afterRetention := [], fromS1 := false } }
  let s := ids.foldl (fun s id => match s.flight id with
    | some f => s.finish f [.dieLost]
    | none => s) s
  let s := (List.range 6).foldl (fun s p => if s.portRole p ≠ 0 ∧ s.portState p = 0 then s.trainPort p else s) s
  (s.trainHost true).planerNext

/-- S1_END (R438-R440, R425): the units that fail the known-answer self-test. -/
def execS1End (failed : List Nat) (s : State) : Host.Outcome State Fault Refusal :=
  .next (if !s.assembling ∨ s.asmStepNo ≠ 8 then s
    else
      let bad := (List.range 6).filter fun u => failed.contains u && s.dieState u == 3
      let s := bad.foldl (fun s u => if u < 4 then ((s.markLost u 0).retireLost u).linksFell else s.cond u 0x0A 0) s
      let s := if s.admittedOf 1 = [] then s.cond 15 6 0 else s
      if s.pkg.conds = [] then s.enterS2 else s.holdS1)

/-- REF_CLOCK_EVENT (R426, R437, R439, R514). -/
def execRefClockEvent (state : Nat) (s : State) : Host.Outcome State Fault Refusal :=
  .next (if 3 ≤ state then s
    else
      let s := s.set 0x2100 2 state
      if s.assembling ∧ state ≠ 1 then s.holdNow 15 0x0C else s)

/-! ## Clocks (R427-R432) -/

/-- Starts that waited for a die's PLL, a gap of the ramp limit or the power limit (R429, R432, R513). -/
def State.startWaitingGroups (s : State) : State :=
  let w := s.pkg.wakeWait
  w.foldl (fun s g =>
    if s.groupMayStart g then
      let s := { s with pkg := { s.pkg with wakeWait := s.pkg.wakeWait.erase g } }
      (s.setGroupClock g 1).bump 0x803C 4 1
    else s) s

/-- GROUP_IDLE_DELAY (R428): no core of the group issues or holds an unfinished operation. -/
def execGroupIdleDelay (g : Nat) (s : State) : Host.Outcome State Fault Refusal :=
  .next (if g < 40 ∧ s.groupClock g = 2 ∧ !s.sched.flights.any (fun f => f.cores.any fun k => groupOf k == g) then
      s.setGroupClock g 3
    else s)

/-- DIE_IDLE_DELAY (R428): every group of the die is OFF and its KEEP_WARM bit is clear. -/
def execDieIdleDelay (d : Nat) (s : State) : Host.Outcome State Fault Refusal :=
  .next (if d < 4 ∧ s.pll d = 2 ∧ !bit (s.get 0x2101 3) d ∧ (groupsOfDie d).all (fun g => s.groupClock g == 0) then s.setPll d 3
    else s)

/-- CLOCK_START_COMPLETE (R427, R432): of a group, or of a die's PLL. -/
def execClockStartComplete (pll : Bool) (i : Nat) (s : State) : Host.Outcome State Fault Refusal :=
  .next (if pll then (if i < 7 ∧ s.pll i = 1 then (s.setPll i 2).startWaitingGroups else s)
    else if i < 40 ∧ s.groupClock i = 1 then (s.setGroupClock i 2).startWaitingGroups.powerUpdate
    else s)

/-- CLOCK_STOP_COMPLETE (R432): OFF, or the queued start. -/
def execClockStopComplete (pll : Bool) (i : Nat) (s : State) : Host.Outcome State Fault Refusal :=
  .next (if pll then
      (if 7 ≤ i then s
        else match s.pll i with
        | 3 => s.setPll i 0
        | 4 => (s.setPll i 0).startPll i
        | _ => s)
    else if 40 ≤ i then s
    else match s.groupClock i with
      | 3 => (s.setGroupClock i 0).powerUpdate
      | 4 => ((s.setGroupClock i 0).startGroup i).powerUpdate
      | _ => s)

/-! ## Deep idle (R433-R435) -/

/-- Is a write of 1 to DEEP_IDLE_REQUEST refused (R434)? -/
def State.deepIdleRefused (s : State) : Bool :=
  !s.inS2 || s.holders != [] || !s.noCollective || s.pairState != 0

/-- DEEP_IDLE is entered (R433, R434): dies, caches and fabric engines are powered down, the stacks refresh themselves. A
load already queued ends it at once. -/
def State.enterDeepIdle (s : State) : State :=
  let stop (s : State) (p : Nat) : State := if s.portState p = 0 then s else s.stopPort p
  let s := (List.range 6).foldl stop s
  let s := (List.range 40).foldl (fun (s : State) g => s.setGroupClock g 0) s
  let s := (List.range 7).foldl (fun (s : State) p => s.setPll p 0) s
  let self (s : State) (h : Nat) : State := s.set 0x5001 (h + 1) (setFld (s.get 0x5001 (h + 1)) 31 24 5)
  let s := (List.range 8).foldl self s
  let s := { s with memsys := { s.memsys with lines := [], trackers := [], misses := [] } }
  let s := { s with pkg := { s.pkg with wakeWait := [], exiting := s.sched.loads != [] } }
  ((s.set 0x2002 1 2).set 0x2002 2 1).bump 0x803C 7 1

/-- The stacks leave self-refresh: UP, or UP_LANE_REPAIRED where lanes are repaired (R265). -/
def State.stacksUp (s : State) : State :=
  (List.range 8).foldl (fun (s : State) h =>
    let v := s.get 0x5001 (h + 1)
    s.set 0x5001 (h + 1) (setFld v 31 24 (if fld v 15 8 = 0 then 2 else 3))) s

/-- DEEP_IDLE_EXIT_COMPLETE (R435): the compute dies are reset and wiped, the caches wiped, the stacks up, the ports train. -/
def execDeepIdleExitComplete (s : State) : Host.Outcome State Fault Refusal :=
  .next (if !s.inS2 ∨ s.get 0x2002 1 ≠ 2 ∨ !s.pkg.exiting then s
    else
      let s := (List.range 4).foldl (fun (s : State) d => if s.dieState d = 5 then s else s.tagUp d) s
      let s := (s.wipeCores fun _ => true).stacksUp
      let s := [4, 5, 6].foldl (fun (s : State) p => (s.startPll p).setPll p 2) s
      let s := { s with pkg := { s.pkg with exiting := false } }
      let s := ((s.set 0x2002 2 0).set 0x2002 1 1).powerUpdate
      (List.range 6).foldl (fun s p =>
        if s.portRole p = 0 then s
        else match s.portState p with
          | 0 => s.trainPort p
          | 5 => (s.setPortState p 6).bump 0x803C 8 1
          | _ => s) s)

/-! ## Temperature (R518, R519) -/

/-- A log entry of an event for which R480 lists no kind: one of its kinds, unknown which, and DETAIL bytes that are not
given (log 5). -/
def State.logUnlisted (s : State) (u : Option Nat) : State :=
  let kinds := [0x0001, 0x0002, 0x0010, 0x0011, 0x0012, 0x0013, 0x0020, 0x0021, 0x0022, 0x0023, 0x0024, 0x0025, 0x0030,
    0x0031, 0x0040, 0x0050, 0x0051, 0x0060, 0x0061, 0x0070, 0x0071]
  let (s, k) := s.fresh 16
  let (s, d) := s.fresh 224
  s.logAdd { kind := nth 0 kinds (k % kinds.length), unit := u, detail := leBytes 28 d }

/-- The thermal trip (R519): THERMTRIP_N is asserted; in S1 and S2 retention is entered. -/
def State.thermalTrip (s : State) (u : Option Nat) : State :=
  if s.pkg.trip then s
  else
    let s := { s with pkg := { s.pkg with trip := true } }
    let s := (s.bump 0x8040 2 1).logUnlisted u
    if s.canRetain then s.enterRetention false else s

def State.dieTemp (s : State) (u : Nat) : Int := toSigned 8 (s.get 0x2200 (u + 1))

/-- Throttling of a compute die (R518): entered at TEMP_THROTTLE, left 5 °C below. -/
def State.throttleDie (s : State) (d : Nat) : State :=
  let t := s.dieTemp d
  let lim : Int := s.get 0x2201 2
  if s.pkg.throttled.contains d then
    if t ≤ lim - 5 then { s with pkg := { s.pkg with throttled := s.pkg.throttled.filter (· != d) } } else s
  else if lim ≤ t then ({ s with pkg := { s.pkg with throttled := s.pkg.throttled ++ [d] } }).bump 0x8040 1 1
  else s

/-- THERM_ALERT_N (R518). -/
def State.alertDies (s : State) : State :=
  let lim : Int := s.get 0x2201 1
  let hot := (List.range 7).find? fun u => decide (lim ≤ s.dieTemp u)
  if s.pkg.alert then
    if (List.range 7).all fun u => decide (s.dieTemp u ≤ lim - 5) then { s with pkg := { s.pkg with alert := false } } else s
  else match hot with
    | some u => ({ s with pkg := { s.pkg with alert := true } }).logUnlisted (some u)
    | none => s

/-- DIE_TEMP_SAMPLE (R518): °C of CD0-CD3, MD0, MD1, IOD. -/
def execDieTempSample (temps : List Int) (s : State) : Host.Outcome State Fault Refusal :=
  .next (if temps.length ≠ 7 then s
    else
      let s := temps.zipIdx.foldl (fun (s : State) p => s.set 0x2200 (p.2 + 1) (ofSigned 8 p.1)) s
      let s := s.alertDies
      let s := if s.diesRun then (List.range 4).foldl State.throttleDie s else s
      match (List.range 7).find? fun u => decide (105 ≤ s.dieTemp u) with
      | some u => s.thermalTrip (some u)
      | none => s)

/-- THERMTRIP_RELEASE (R519): every die and every stack is below 85 °C. -/
def execThermtripRelease (s : State) : Host.Outcome State Fault Refusal :=
  .next (if (List.range 7).all (fun u => decide (s.dieTemp u < 85))
      ∧ (List.range 8).all (fun h => decide (toSigned 8 (s.get 0x5003 (h + 1)) < 85)) then
      { s with pkg := { s.pkg with trip := false } }
    else s)

/-- TRIP_RAILS_KEPT (R519): the main rails are still in range 10 ms after the assertion. -/
def execTripRailsKept (s : State) : Host.Outcome State Fault Refusal :=
  .next (if s.pkg.trip then
      let s := s.bump 0x8040 5 1
      if s.retaining then s
      else (List.range 6).foldl (fun (s : State) u => if s.dieState u = 5 then s else s.setDie u 1) s
    else s)

/-! ## Power and light (R513, R517) -/

/-- POWER_WINDOW (R513): over POWER_LIMIT no group begins a start in the next window. -/
def execPowerWindow (mw : Nat) (s : State) : Host.Outcome State Fault Refusal :=
  .next (
    let s := s.set 0x2005 1 (mw % 2 ^ 32)
    let above := decide (s.get 0x2005 2 < mw)
    let s := { s with pkg := { s.pkg with powerBlocked := above } }
    if above then s.bump 0x8040 4 1 else s.startWaitingGroups)

/-- LASER_LOW (R517): engines 0-5 are DV0-DV5, 6 is HOST. -/
def execLaserLow (e : Nat) (s : State) : Host.Outcome State Fault Refusal :=
  .next (if 7 ≤ e then s
    else
      let s := s.set 0x2203 (e + 1) (setBit (s.get 0x2203 (e + 1)) 0 true)
      if e = 6 then (if s.net.linkUp then s.linkLost 0 else s)
      else if s.portUp e then s.portLeaves e 4 else s)

/-- LASER_RESTORED (R517): the lanes train at once. -/
def execLaserRestored (e : Nat) (s : State) : Host.Outcome State Fault Refusal :=
  .next (if 7 ≤ e then s
    else
      let s := s.set 0x2203 (e + 1) (setBit (s.get 0x2203 (e + 1)) 0 false)
      if e = 6 then (if s.net.linkUp ∨ !s.pkg.booted then s else s.trainHost s.net.wantFull)
      else if s.inS2 ∧ s.portState e = 4 then s.trainPort e else s)

/-! ## Test access (R523) -/

/-- TEST_ACCESS_PORT (R523): 0 BYPASS, 1 IDCODE, 2 SAMPLE/PRELOAD, 3 EXTEST, others as the die defines them. Outside
MANUFACTURE the others act as BYPASS; so does EXTEST unless RESET_N is asserted. -/
def execTestAccessPort (code : Nat) (s : State) : Host.Outcome State Fault Refusal :=
  .next (
    let e := if code = 3 ∧ !s.pkg.resetHeld then 0 else if 4 ≤ code ∧ s.lifecycle ≠ 0 then 0 else code
    { s with pkg := { s.pkg with jtag := e } })

end Sys2Proof.Machine
end

