-- ==== Sys2Proof/Machine/MemSys.lean ====
section
/-! DEFINITION. The memory system's own events: refresh, temperatures and throttling, prefetches, traffic generators
(R231, R241, R253, R256-R260). -/

namespace Sys2Proof.Machine

/-! ## Refresh, temperature, throttling -/

/-- The state of a stack (0x5001): 2 UP, 3 UP_LANE_REPAIRED. -/
def State.stackState (s : State) (h : Nat) : Nat := fld (s.get 0x5001 (h + 1)) 31 24

def State.stackUp (s : State) (h : Nat) : Bool := s.stackState h == 2 || s.stackState h == 3

/-- HBM_REFRESH (R231): a pseudo channel is unavailable for 136.5 ns, which is time only. What the accesses of no command cost it
since the refresh before is counted with it (R247, R250, R258); only a throttled stack delays them. -/
def execHbmRefresh (h : Nat) (c : ChannelCosts) (s : State) : Host.Outcome State Fault Refusal :=
  .next (if h < 8 ∧ c.pc < 32 ∧ s.stackUp h then
      let s := { s with memsys := { s.memsys with refreshes := s.memsys.refreshes + 1 } }
      let s := ((s.bump 0x8036 0x01 c.ceHbm).bump 0x8036 0x03 c.ceSram).bump 0x8036 0x0A c.bankConflicts
      (s.bump 0x8036 0x0B c.turnarounds).bump 0x8036 0x0D (if s.get 0x5004 (h + 1) = 0 then 0 else c.throttleNs)
    else s)

/-- The threshold of a throttle step (R257). -/
def State.throttleAt (s : State) (step : Nat) : Int := (s.get 0x5005 1 : Int) + ((step : Int) - 1) * (s.get 0x5005 2 : Int)

/-- The step that a temperature gives a stack (R257): the highest whose threshold is met, or one less than now. -/
def State.throttleStep (s : State) (now : Nat) (t : Int) : Nat :=
  match [4, 3, 2, 1].find? fun k => decide (now < k) && decide (s.throttleAt k ≤ t) with
  | some k => k
  | none => if 1 ≤ now ∧ t ≤ s.throttleAt now - s.get 0x5005 3 then now - 1 else now

/-- One stack's sample (R256, R257). -/
def State.sampleStack (s : State) (h : Nat) (t : Int) : State :=
  let s := s.set 0x5003 (h + 1) (ofSigned 8 t)
  let now := s.get 0x5004 (h + 1)
  let step := s.throttleStep now t
  if step = now then s
  else ((s.set 0x5004 (h + 1) step).bump 0x8036 0x0C 1).logAdd
    { kind := 0x12, unit := some (4 + h / 4), detail := leBytes 1 h ++ leBytes 1 (ofSigned 8 t) ++ leBytes 1 step }

/-- HBM_TEMP_SAMPLE (R256, R257, R518): °C of the four stacks of a memory-side die. -/
def execHbmTempSample (md : Nat) (temps : List Int) (s : State) : Host.Outcome State Fault Refusal :=
  .next (if 2 ≤ md ∨ temps.length ≠ 4 then s
    else
      let s := temps.zipIdx.foldl (fun (s : State) p => s.sampleStack (md * 4 + p.2) (toSigned 8 (ofSigned 8 p.1))) s
      if temps.any fun t => decide ((s.get 0x2201 3 : Int) ≤ t) then s.thermalTrip (some (4 + md)) else s)

/-! ## Prefetches (R241-R245, R253) -/

/-- Does a tracker of the context in the line's stack reach the line from its latest demand, at most 256 KiB on: a learned one,
or a declared one? -/
def State.reaches (s : State) (ctx l : Nat) (learned : Bool) : Bool :=
  s.memsys.trackers.any fun t => t.stack == stackOf l && t.ctx == ctx && (if learned then t.leads l else t.ahead l)

/-- PREFETCH (R241): a learned or a declared tracker reads a line into the context's share. An uncorrectable line is not placed
(R253). -/
def execPrefetch (ctx line : Nat) (learned : Bool) (s : State) : Host.Outcome State Fault Refusal :=
  .next (
    let l := lineBase line
    if 64 ≤ ctx ∨ (s.ctx ctx).phase ≠ .ready ∨ !s.inS2 ∨ !s.stackUp (stackOf l) ∨ !s.mayPrefetch ctx l ∨ !s.reaches ctx l learned
      then s
    else s.prefetchLine ctx l)

/-! ## Traffic generators (R259, R260) -/

namespace Tg
/-! Fields of TGEN_CONFIG (R259). -/
def rowFirst (c : Nat) : Nat := fld c 191 176
def rowCount (c : Nat) : Nat := fld c 175 160
def bankMask (c : Nat) : Nat := fld c 159 96
def pcMask (c : Nat) : Nat := fld c 65 64
def opMode (c : Nat) : Nat := fld c 9 8
end Tg

/-- Does a configuration name the test rows only? -/
def testRowsOnly (c : Nat) : Bool := decide (32760 ≤ Tg.rowFirst c) && decide (Tg.rowFirst c + Tg.rowCount c ≤ 32768)

/-- No reserved value, and an operand that every mode needs (R259, R260). -/
def tgenCfgOk (c : Nat) : Bool :=
  let mode := fld c 11 10
  Tg.rowCount c != 0 && Tg.pcMask c != 0 && Tg.bankMask c != 0 && decide (fld c 7 4 ≤ 6) && mode != 3
    && fld c 71 66 == 0 && fld c 31 12 == 0 && fld c 3 0 == 0
    && (mode != 1 || fld c 95 80 != 0) && (Tg.opMode c != 3 || fld c 79 72 != 0)
    && decide (Tg.rowCount c ≤ 32768) && decide (Tg.rowFirst c + Tg.rowCount c ≤ 32768)

/-- A write of 1 to TGEN_CONTROL (R260): the run begins, or 3 REFUSED is read. -/
def State.tgenStart (s : State) (sub : Nat) : State :=
  let c := s.get 0x5020 sub
  let anyCtx := s.holders != []
  let permitted := s.stage == 3 || s.inS2
  let outside := !testRowsOnly c
  if s.memsys.tgens.any fun t => t.sub == sub then s
  else if !tgenCfgOk c || !permitted || (outside && anyCtx) then s.set 0x5021 sub 3
  else
    let writes := outside && Tg.opMode c != 1
    let m := s.memsys
    let wait := if writes && !m.pendingWipe.contains sub then m.pendingWipe ++ [sub] else m.pendingWipe
    let s := { s with memsys := { m with tgens := m.tgens ++ [Tgen.mk sub c writes false], pendingWipe := wait } }
    (s.set 0x5022 sub 0).set 0x5021 sub 1

/-- A write of 2 to TGEN_CONTROL (R260): the run stops, and its end reports what it found. -/
def State.tgenStop (s : State) (sub : Nat) : State :=
  let stop (t : Tgen) : Tgen := { t with stopped := true }
  { s with memsys := { s.memsys with tgens := mapIf (fun t => t.sub == sub) stop s.memsys.tgens } }

/-! ### What a run accesses -/

/-- One access of a generator: pseudo channel of the channel (0, 1), bank, row, 64-byte access within the row. -/
structure TgAccess where
  pc : Nat
  bank : Nat
  row : Nat
  acc : Nat
  deriving DecidableEq, Repr

/-- The set bits of a mask of `n` bits, lowest first. -/
def maskBits (n m : Nat) : List Nat := (List.range n).filter (bit m)

/-- The number of accesses in the range of a configuration. -/
def Tg.size (c : Nat) : Nat := Tg.rowCount c * (maskBits 64 (Tg.bankMask c)).length * (maskBits 2 (Tg.pcMask c)).length * 16

/-- The access at a place of the range: the 16 of a row first, then the pseudo channels, the banks and the rows (DESIGN CHOICE,
log 79). -/
def Tg.place (c i : Nat) : TgAccess :=
  let pcs := maskBits 2 (Tg.pcMask c)
  let banks := maskBits 64 (Tg.bankMask c)
  let j := i / 16
  let k := j / pcs.length
  ⟨nth 0 pcs (j % pcs.length), nth 0 banks (k % banks.length), Tg.rowFirst c + k / banks.length, i % 16⟩

/-- Access `i` of a run (R259): in order, in steps of STRIDE, or at random. -/
def Tg.access (c i : Nat) : TgAccess :=
  let n := Tg.size c
  Tg.place c (match fld c 11 10 with
    | 0 => i % n
    | 1 => i * fld c 95 80 % n
    | _ => Config.tgenRandom (fld c 223 192) i % n)

/-- Is access `i` of a run a write (R259)? -/
def Tg.writes (c i : Nat) : Bool :=
  match Tg.opMode c with
  | 0 => true
  | 1 => false
  | 2 => decide (i % (2 * Tg.size c) < Tg.size c)
  | _ => i / fld c 79 72 % 2 == 0

/-- The flat address of an access of channel `ch` of stack `h` (R233-R235). -/
def TgAccess.addr (x : TgAccess) (h ch : Nat) : Nat :=
  let pc := 2 * ch + x.pc
  if x.row < 32752 then
    x.row * 2 ^ 24 + x.bank * 2 ^ 18 + x.acc / 4 * 2 ^ 16 + h * 2 ^ 13 + (pc ^^^ x.row % 32) * 2 ^ 8 + x.acc % 4 * 64
  else rsvBase + h * 2 ^ 25 + (((x.row - 32752) * 64 + x.bank) * 32 + pc) * 1024 + x.acc * 64

/-- Where TGEN_RESULT names an access (R260). -/
def TgAccess.code (x : TgAccess) : Nat := x.pc * 2 ^ 25 + x.bank * 2 ^ 19 + x.row * 2 ^ 4 + x.acc

/-- The 64 bytes of an access as a number (R259). -/
def Tg.data (c : Nat) (x : TgAccess) : Nat :=
  if fld c 7 4 = 3 then leNat ((List.range 16).flatMap fun _ => leBytes 4 (fld c 63 32))
  else Config.tgenData (fld c 7 4) (max 1 (fld c 223 192)) x.code % 2 ^ 512

/-- A run as far as it has come: memory with the lines written, their fresh check bits, the rows written, and what the checker
found: reads with a wrong bit, the first of them, and the lanes. -/
structure TgRun where
  mem : List Host.Cell
  ue : List (Nat × Bool)
  rows : List HbmRow
  bad : Nat
  first : Option Nat
  lanes : Nat
  deriving DecidableEq, Repr

/-- The DQ lanes of the wrong bits of a read: bit `j` of each 32-bit beat is on lane `j` (log 79). -/
def wrongLanes (pc diff : Nat) : Nat :=
  ((List.range 16).foldl (fun m b => m ||| diff / 2 ^ (32 * b) % 2 ^ 32) 0) * 2 ^ (32 * pc)

/-- One access of a run. -/
def TgRun.step (h ch c : Nat) (r : TgRun) (i : Nat) : TgRun :=
  let x := Tg.access c i
  let a := x.addr h ch
  let want := Tg.data c x
  if Tg.writes c i then
    { r with mem := memWrs r.mem a (leBytes 64 want), ue := smSet false r.ue a false,
             rows := r.rows ++ [⟨h, 2 * ch + x.pc, x.bank, x.row⟩] }
  else
    let got := leNat ((List.range 64).map fun i => memRd r.mem (a + i))
    if got = want then r
    else { r with bad := r.bad + 1, first := some (r.first.getD x.code), lanes := r.lanes ||| wrongLanes x.pc (got ^^^ want) }

/-- The rows written outside the test rows. -/
def TgRun.outside (r : TgRun) : List HbmRow := r.rows.filter fun x => decide (x.row < 32760)

/-- TGEN_RUN_DONE (R259, R260, R262): the run has made `acc` accesses. The checker has found the reads whose stored bits differ from
the pattern, and those that raw bit errors of the stack made wrong: `bad` more reads, on `lanes`, the first of them `first`. Rows
written outside the test rows are wiped; where the wipe fails they stay unwiped, and no context is created. -/
def execTgenRunDone (sub acc bad first lanes retried : Nat) (repairs : List HbmRow) (ok : Bool) (s : State) :
    Host.Outcome State Fault Refusal :=
  .next (match s.memsys.tgens.find? fun t => t.sub == sub with
    | none => s
    | some t =>
      let r := (List.range acc).foldl (TgRun.step ((sub - 1) / 16) ((sub - 1) % 16) t.cfg) ⟨s.mem, s.ue, [], 0, none, 0⟩
      let reads := Tg.opMode t.cfg != 0
      let found (n : Nat) : Nat := if reads then n else 0
      let v := acc % 2 ^ 64 + found (r.bad + bad) % 2 ^ 64 * 2 ^ 64 + found (r.first.getD first) % 2 ^ 26 * 2 ^ 128
        + found (r.lanes ||| lanes) % 2 ^ 64 * 2 ^ 160
      let s := { s with mem := r.mem, ue := r.ue }
      let s := (s.set 0x5022 sub v).set 0x5021 sub 2
      let s := { s with memsys := { s.memsys with tgens := s.memsys.tgens.filter fun x => x.sub != sub } }
      if !t.outside then s
      else
        let wiped := r.outside
        let s := (s.wipeWhere fun a => decide (a < poolFlat) && wiped.contains (rowAt a)).wipeReport retried repairs
        if ok then { s with memsys := { s.memsys with pendingWipe := s.memsys.pendingWipe.filter fun n => n != sub } } else s)

end Sys2Proof.Machine
end

