-- ==== Sys2Proof/Machine/Site.lean ====
section
/-! DEFINITION. The open-site channels (R45-R49), and the excess of a Tenon link's retry rate (R25). -/

namespace Sys2Proof.Machine

/-! ## Open-site channels -/

/-- The intake streams in service on a Raorn stream. -/
def State.intakeOn (s : State) (raorn : Nat) : List Nat :=
  (List.range 128).filter fun k => s.intakeState k == 1 && Ic.raorn (s.intakeCfg k) == raorn

/-- The open sample of a channel closes as it stands (R46, R49, R272): data beyond LENGTH is discarded and counted, and so
is a sample without a whole header or without an intake stream that takes it. -/
def State.siteClose (s : State) (ch : Nat) : State :=
  let x := s.siteCh ch
  if !x.opened then s
  else
    let s := s.setSiteCh ch { x with sample := [], opened := false }
    let hdr := leAt x.sample 0 8
    let data := x.sample.drop 8
    let len := fld hdr 31 0
    match (if x.sample.length < 8 then [] else s.intakeOn (Os.stream (s.siteBind ch))) with
    | k :: _ => (s.bump 0x8037 0x0B (data.length - len)).sampleArrives k hdr (data.take len) (decide (data.length < len)) true
    | [] => s.bump 0x8037 0x0B data.length

/-- A claimed sample that stands open at a channel and declares too large a size is rejected once its bytes show it (R294). -/
def State.rejectOpen (s : State) (ch : Nat) : State :=
  let bs := (s.siteCh ch).sample
  match (if bs.length < 8 then [] else s.intakeOn (Os.stream (s.siteBind ch))) with
  | k :: _ =>
    let x := s.istream k
    let hdr := leAt bs 0 8
    match s.batchOf k x.arrived with
    | some b =>
      if x.kind = 4 then s
      else match (s.mediaVerdict k ⟨x.arrived, hdr, (bs.drop 8).take (fld hdr 31 0), false, true⟩).over with
        | some r => s.resolveHole b (x.arrived - b.first) 0x40 r
        | none => s
    | none => s
  | [] => s

/-- OPEN_SITE_BIND is written (R46, R47, R49): an open sample closes, and an inbound channel starts with 64 credits. DESIGN
CHOICE (log 75, unsafe): R47 does not say whether these 64 are granted by a CREDIT message; the binding itself grants them, and
none is sent. -/
def State.siteRebind (s : State) (ch v : Nat) : State :=
  let s := (s.siteClose ch).set 0x1061 (ch + 1) v
  let x : SiteCh := { inCredits := if Os.dir v = 1 then 64 else 0 }
  s.setSiteCh ch x

/-- The header check of R48: KIND, ARG, LENGTH, and a channel bound in the message's direction. -/
def State.siteHdrOk (s : State) (hdr : Nat) (payload : List Byte) : Bool :=
  let dir := Os.dir (s.siteBind (Os.channel hdr))
  let n := Os.length hdr
  payload.length == n &&
    match Os.kind hdr with
    | 0 => dir == 1 && Os.arg hdr == 0 && decide (1 ≤ n) && decide (n ≤ 4096)
    | 1 => dir == 1 && Os.arg hdr == 0 && n == 0
    | 2 => dir == 2 && n == 0
    | _ => false

/-- A message of the die (R45-R48). The message that reveals a gap in SEQ is accepted. DESIGN CHOICE (log 75, unsafe): R48 does
not say whether a discarded message moves the channel's expected SEQ; one discarded for its credit does, one discarded for its
header does not, since its channel and SEQ are fields of the header at fault. -/
def State.siteMsg (s : State) (hdr : Nat) (payload : List Byte) : State :=
  let ch := Os.channel hdr
  if !s.siteLive then s
  else if !s.siteHdrOk hdr payload then s.bump 0x8020 2 1
  else
    let x := s.siteCh ch
    let s := match x.seq with
      | some n => if n = Os.seq hdr then s else s.bump 0x8020 3 1
      | none => s
    let x := { x with seq := some ((Os.seq hdr + 1) % 65536) }
    let cost := cdiv payload.length 256
    match Os.kind hdr with
    | 0 =>
      if x.inCredits < cost then (s.setSiteCh ch x).bump 0x8020 1 1
      else
        let y := { x with inCredits := x.inCredits - cost, owed := x.owed + cost, sample := x.sample ++ payload, opened := true }
        ((s.setSiteCh ch y).rejectOpen ch).siteGrant ch
    | 1 => ((s.setSiteCh ch x).siteClose ch).siteGrant ch
    | _ => (s.setSiteCh ch { x with outCredits := x.outCredits + Os.arg hdr }).siteFlow ch

/-- OPEN_SITE_DATA (R46-R48): a DATA message, or one with a reserved KIND. -/
def execOpenSiteData (hdr : Nat) (payload : List Byte) (s : State) : Host.Outcome State Fault Refusal :=
  .next (if Os.kind hdr = 1 ∨ Os.kind hdr = 2 then s else s.siteMsg hdr payload)

/-- OPEN_SITE_END_OF_SAMPLE (R46). -/
def execOpenSiteEndOfSample (hdr : Nat) (s : State) : Host.Outcome State Fault Refusal :=
  .next (s.siteMsg (setFld hdr 31 28 1) [])

/-- OPEN_SITE_CREDIT (R47): outbound bytes that waited for the credits go out. -/
def execOpenSiteCredit (hdr : Nat) (s : State) : Host.Outcome State Fault Refusal :=
  .next (s.siteMsg (setFld hdr 31 28 2) [])

/-- OPEN_SITE_LINK_DOWN (R49): the link reads DOWN, with no rate; in S2 open samples close, and bindings stay. -/
def execOpenSiteLinkDown (s : State) : Host.Outcome State Fault Refusal :=
  .next (if s.get 0x1060 1 = 0 then s
    else ((if s.inS2 then (List.range 64).foldl State.siteClose s else s).set 0x1060 1 0).set 0x1060 2 0)

/-! ## The Tenon links' retry rate -/

/-- RETRY_RATE_EXCEEDED (R25, R450): first a re-equalisation, paused or not, then a retraining. -/
def execRetryRateExceeded (link : Nat) (s : State) : Host.Outcome State Fault Refusal :=
  .next (if !s.inS2 ∨ !s.linkUp link then s
    else if (s.tenon link).eqDone then s.requestTraining link
    else
      let s := s.reEqualise link
      s.setTenon link { s.tenon link with eqDone := true })

end Sys2Proof.Machine
end

