-- ==== Sys2Proof/Machine/Background.lean ====
section
/-! DEFINITION. Background work (R445-R460), and the regulators' answers (R512). -/

namespace Sys2Proof.Machine

/-! ## Tasks, pauses (R445, R458, R459) -/

/-- Does a task run in the stage and power state (R445)? S1_STEP gives how far S1 has come. -/
def State.taskRuns (s : State) (t : Nat) : Bool :=
  let awake := s.inS2 && s.get 0x2002 1 != 2
  match t with
  | 0 | 3 | 7 | 8 => awake
  | 1 => s.inS2 || (s.stage == 2 && decide (8 ≤ s.get 0x2004 1))
  | 2 => awake || (s.stage == 2 && decide (5 ≤ s.get 0x2004 1))
  | 5 => s.inS2 || s.stage == 2
  | _ => true

def State.paused (s : State) (t : Nat) : Bool := s.get 0x5100 (t + 1) == 1

def State.taskActive (s : State) (t : Nat) : Bool := s.taskRuns t && !s.paused t

/-- A pause that R452 or R458 refuses. -/
def State.pauseRefused (s : State) (t : Nat) : Bool := t == 4 || (!s.paused t && decide (s.time < smGet 0 s.bg.noPause t))

/-- BG_CONTROL written: 1 pauses the task, 0 resumes it; a new pause then waits as long as this one lasted. -/
def State.bgWrite (s : State) (t v : Nat) : State :=
  let since := smGet 0 s.bg.pausedAt t
  if v = 1 then
    if s.paused t then s
    else ({ s with bg := { s.bg with pausedAt := smSet 0 s.bg.pausedAt t (s.time + 1) } }).set 0x5100 (t + 1) 1
  else if !s.paused t then s
  else
    let wait := s.time + (s.time + 1 - since)
    let bg := { s.bg with pausedAt := smSet 0 s.bg.pausedAt t 0, noPause := smSet 0 s.bg.noPause t wait }
    ({ s with bg := bg }).set 0x5100 (t + 1) 0

/-- PAUSE_LIMIT (R458): the task resumes by itself; tasks 4 and 7 have no limit. -/
def execPauseLimit (task : Nat) (s : State) : Host.Outcome State Fault Refusal :=
  .next (if 9 ≤ task ∨ task = 7 ∨ task = 4 ∨ !s.paused task then s
    else ((s.bgWrite task 0).bump 0x803D 0x0C 1).logAdd { kind := 0x61, detail := leBytes 1 task })

/-- Slabs that the recorded jobs have in both sweeps (R457). -/
def State.recordedSlabs (s : State) : Nat := (s.plan.known.map fun k => 2 * Pj.slabs k.2.2.toNat).foldl (· + ·) 0

/-- 64-byte lines of a pseudo channel (R447). -/
def pcLines : Nat := 33554432

/-- Lines of a pseudo channel (0-255) that HBM_SCRUB has read in its pass. -/
def State.scrubbed (s : State) (k : Nat) : Nat := smGet 0 s.bg.scrubAt k

/-- BG_STATE (R459); the progress of HBM_SCRUB is that of its slowest pseudo channel, which ends the pass (R447). -/
def State.bgState (s : State) (t : Nat) : Nat :=
  let idle := (t == 7 && s.telemetry == []) || (t == 8 && s.plan.known == [])
  let st := if s.paused t then 2 else if !s.taskRuns t then 3 else if idle then 1 else 0
  let part (a b : Nat) : Nat := min 100 (a * 100 / max 1 b)
  let progress := match t with
    | 0 => part ((listMin? ((List.range 256).map s.scrubbed)).getD 0) pcLines
    | 1 => part s.bg.sramWords Config.sramWords
    | 8 => part s.bg.digestAt s.recordedSlabs
    | _ => 0
  let secs := if s.paused t then min 65535 ((s.time + 1 - smGet 0 s.bg.pausedAt t) / 25000000) else 0
  st * 2 ^ 24 + progress * 2 ^ 16 + secs

/-! ## Scrubbing (R447-R449, R253) -/

/-- The context that owns a location; 0xFF when none does. -/
def State.ownerOf (s : State) (a : Nat) : Nat := ((s.holders.find? fun h => ctxOwns h.2 a).map (·.1)).getD 0xFF

/-- The committed slabs of completed jobs, not open, whose home holds a byte of an HBM line (R195, R197). -/
def State.slabsOn (s : State) (l : Nat) : List (SlabId × Nat) :=
  s.plan.known.flatMap fun j =>
    let d := j.2.2.toNat
    let on (x k : Nat) : Bool := (slabHome d x k).any fun r => (List.range r.2).any fun i => lineBase (s.partAddr j.1 (r.1 + i)) == l
    if s.jobOpen j.1 j.2.1 then []
    else (([0, 1].flatMap fun x => (List.range (Pj.slabs d)).map fun k => (x, k)).filter fun p =>
      on p.1 p.2 && s.digestAt j.1 d p.1 p.2 != 0).map fun p => (⟨j.1, j.2.1, p.2, p.1⟩, d)

/-- An HBM scrub meets an uncorrectable line (R253): logged and counted, no command completes; a paired device asks the partner for
the committed Planer state in it (R197). -/
def State.scrubHbm (s : State) (l : Nat) : State :=
  let s := { s with ue := smSet false s.ue l true }
  let s := s.meetAt (if l < hbmBytes then (if s.isLost l then 6 else 0, l, 0) else (5, l - rsvBase, 0)) (s.ownerOf l) 3 false
  if s.paired then (s.slabsOn l).foldl (fun s p => if s.walkable p.1 then s.driftFetch p.1 else s) s else s

/-- An SRAM scrub meets an uncorrectable word: of a pool, a slice, or a cached line. -/
def State.scrubSram (s : State) (a : Nat) : State :=
  let s := if a < poolFlat then s.modLine (lineBase a) fun x =>
      { x with bad := if x.bad.contains (a % 64 / 8) then x.bad else x.bad ++ [a % 64 / 8] }
    else { s with ue := smSet false s.ue (ueUnit a) true }
  s.meetUe (wordOf a) (s.ownerOf a) 3 false

/-- Addresses of HBM lines: the linear space, and the device-reserved rows. -/
def isHbm (a : Nat) : Bool := decide (a < hbmBytes) || (decide (rsvBase ≤ a) && decide (a < rsvBase + 8 * 32 * mib))

/-- HBM_SCRUB (R447, R448): the next line of a pseudo channel read; `err` 0 none, 1 correctable, 2 uncorrectable; `skipped`: a write
to the line came since the read; `last`: the pass ends, with the last line of its last pseudo channel. -/
def execHbmScrub (a err : Nat) (skipped last : Bool) (s : State) : Host.Outcome State Fault Refusal :=
  .next (
    let l := lineBase a
    let k := lineChannel l
    let ends := (List.range 256).all fun n => s.scrubbed n + b2n (n == k) == pcLines
    if !s.taskActive 0 ∨ !isHbm a ∨ linePlace l ≠ s.scrubbed k ∨ last ≠ ends then s
    else
      let first := s.bg.scrubAt == []
      let frm := if first then s.ns else s.bg.scrubFrom
      let per := if first then s.get 0x5102 1 else s.bg.scrubPeriod
      let at_ := smSet 0 s.bg.scrubAt k (s.scrubbed k + 1)
      let s := ({ s with bg := { s.bg with scrubAt := at_, scrubFrom := frm, scrubPeriod := per } }).bump 0x803D 1 1
      let s := if err = 2 ∨ isUe s.ue l ∨ s.isLost l then s.scrubHbm l
        else if err = 1 then
          let dirty := s.memsys.lines.any fun c => c.line == l && c.dirty
          (s.bump 0x8036 1 1).bump 0x803D 0x0D (b2n (skipped || dirty))
        else s
      if !last then s
      else
        let s := (s.bump 0x803D 2 1).bump 0x803D 3 (b2n (decide (frm + per * 1000000000 < s.ns)))
        { s with bg := { s.bg with scrubAt := [] } })

/-- Is the clock of the bank that holds an SRAM location running (R449)? Caches run with their die. -/
def State.bankClocked (s : State) (a : Nat) : Bool :=
  if a < poolFlat then s.pll (4 + mdOf a) == 2
  else s.groupClock (groupOf (if a < sliceFlat then poolCluster a * 80 else sliceKey a / 8)) == 2

/-- SRAM_SCRUB (R449): one word of a pool, a scratchpad, or a cache (by the linear address that the word holds; one that holds no
line has nothing to find). -/
def execSramScrub (a err : Nat) (last : Bool) (s : State) : Host.Outcome State Fault Refusal :=
  .next (if !s.taskActive 1 ∨ !s.bankClocked a then s
    else
      let s := { s with bg := { s.bg with sramWords := s.bg.sramWords + 1 } }
      let empty := decide (a < poolFlat) && (s.cached a).isNone
      let bad := if a < poolFlat then (s.cached a).any (fun c => c.bad.contains (a % 64 / 8)) else isUe s.ue a
      let s := if empty then s else if err = 2 ∨ bad then s.scrubSram a else if err = 1 then s.bump 0x8036 3 1 else s
      if !last then s else ({ s with bg := { s.bg with sramWords := 0 } }).bump 0x803D 4 1)

/-! ## Calibration (R450-R453, R512) -/

/-- TENON_EQ (R450): the periodic re-equalisation of a link. -/
def execTenonEq (link : Nat) (s : State) : Host.Outcome State Fault Refusal :=
  .next (if s.taskActive 2 && s.linkUp link then s.reEqualise link else s)

/-- A channel is retrained (R451). -/
def State.retrainChannel (s : State) (sub : Nat) : State :=
  let t := toSigned 8 (s.get 0x5003 ((sub - 1) / 16 + 1))
  ({ s with bg := { s.bg with
      retrainWait := s.bg.retrainWait.filter fun n => n != sub
      retrainTemp := smSet 0 s.bg.retrainTemp sub t } }).bump 0x803D 6 1

/-- HBM_RETRAIN (R451): in a gap of 2 µs, or the channel waits for one. -/
def execHbmRetrain (sub : Nat) (gap : Bool) (s : State) : Host.Outcome State Fault Refusal :=
  .next (if sub = 0 ∨ 128 < sub ∨ !s.taskActive 3 then s
    else if gap then s.retrainChannel sub
    else if s.bg.retrainWait.contains sub then s
    else { s with bg := { s.bg with retrainWait := s.bg.retrainWait ++ [sub] } })

/-- HBM_RETRAIN_WAIT_EXPIRY (R451): after 1 ms it retrains at once. -/
def execHbmRetrainWaitExpiry (sub : Nat) (s : State) : Host.Outcome State Fault Refusal :=
  .next (if s.bg.retrainWait.contains sub && s.taskActive 3 then s.retrainChannel sub else s)

/-- Is an optical engine lit? HOST is at all times; a fabric engine once it is admitted, and neither in deep idle nor in retention
(R421, R433). -/
def State.lit (s : State) (e : Nat) : Bool :=
  e == 6 || (decide (e < 6) && s.dieState (7 + e) == 3 && !s.retaining && s.get 0x2002 1 != 2)

/-- OPTICAL_TUNE (R452, R517): the heater setting of a lit engine, and whether it is at its limit. -/
def execOpticalTune (e heater : Nat) (limit : Bool) (s : State) : Host.Outcome State Fault Refusal :=
  .next (if !s.lit e then s
    else
      let s := { s with bg := { s.bg with heaters := smSet 0 s.bg.heaters e heater } }
      s.set 0x2203 (e + 1) (setBit (s.get 0x2203 (e + 1)) 1 limit))

/-- The set points of an AVS rail in mV (R509): nominal, lowest, highest. -/
def railRange (r : Nat) : Nat × Nat × Nat := if r < 4 then (750, 650, 850) else (800, 700, 900)

def State.railSet (s : State) (r : Nat) : Nat := smGet (railRange r).1 s.bg.rails r

/-- AVS (R453): the targets that the aging monitors and BIN call for, within each rail's range. -/
def execAvs (targets : List (Nat × Nat)) (s : State) : Host.Outcome State Fault Refusal :=
  .next (if !s.taskActive 5 then s
    else
      let clamp (r v : Nat) : Nat := min (railRange r).2.2 (max (railRange r).2.1 (v - v % 5))
      let put (l : List (Nat × Nat)) (p : Nat × Nat) : List (Nat × Nat) := if p.1 < 7 then smSet 0 l p.1 (clamp p.1 p.2) else l
      { s with bg := { s.bg with targets := targets.foldl put s.bg.targets } })

/-- AVS_STEP (R453): one step of 5 mV toward the target. -/
def execAvsStep (rail : Nat) (s : State) : Host.Outcome State Fault Refusal :=
  .next (
    let now := s.railSet rail
    let goal := smGet now s.bg.targets rail
    if 7 ≤ rail ∨ !s.taskActive 5 ∨ s.bg.stoppedRails.contains rail ∨ goal = now then s
    else
      let v := if now < goal then now + 5 else now - 5
      let rails := smSet (railRange rail).1 s.bg.rails rail v
      ({ s with bg := { s.bg with rails := rails, acked := smSet 0 s.bg.acked rail now } }).bump 0x803D 7 1)

/-- AVS_NACK (R512): the rail stays at its last acknowledged set point until the next package reset. -/
def execAvsNack (rail : Nat) (s : State) : Host.Outcome State Fault Refusal :=
  .next (if 7 ≤ rail ∨ s.bg.stoppedRails.contains rail then s
    else
      let back := smGet (s.railSet rail) s.bg.acked rail
      let rails := smSet (railRange rail).1 s.bg.rails rail back
      let s := { s with bg := { s.bg with rails := rails, stoppedRails := s.bg.stoppedRails ++ [rail] } }
      (s.bump 0x8040 3 1).logUnlisted (some rail))

/-! ## NVS wear and the digest walk (R454, R457) -/

/-- NVS_WEAR (R454): a block's contents move to the least-written block of its area, whose number the spec's NVS layout does
not give (log 5); never while a journal drain waits. -/
def execNvsWear (block writes : Nat) (s : State) : Host.Outcome State Fault Refusal :=
  .next (if s.paused 6 ∨ s.plan.halves.any (fun h => h.buffer != []) then s
    else
      let (s, b) := s.fresh 32
      let bg := { s.bg with wear := smSet 0 s.bg.wear block writes, remap := smSet 0 s.bg.remap block (b + 1) }
      ({ s with bg := bg }).bump 0x803D 8 1)

/-- The place of a recorded slab in the walk's order: context, JOB, slab, then sweep (R457). -/
def SlabId.key (x : SlabId) : Nat := ((x.ctx * 2 ^ 32 + x.job) * 2 ^ 32 + x.k) * 2 + x.sweep

/-- The slabs that the walk checks, as things stand. -/
def State.walkKeys (s : State) : List Nat :=
  s.plan.known.flatMap fun j =>
    let ids := (List.range (Pj.slabs j.2.2.toNat)).flatMap fun k => [0, 1].map fun x => (⟨j.1, j.2.1, k, x⟩ : SlabId)
    (ids.filter s.walkable).map SlabId.key

/-- The slab that the walk checks next: the first from its place on, or from the start again. -/
def State.walkNext (s : State) : Option Nat :=
  match listMin? (s.walkKeys.filter fun k => decide (s.bg.digestNext ≤ k)) with
  | some k => some k
  | none => listMin? s.walkKeys

/-- DIGEST_WALK (R457, R196): the next recorded slab is checked; `late`: the walk cannot finish within its period. -/
def execDigestWalk (ctx job k sweep : Nat) (late : Bool) (s : State) : Host.Outcome State Fault Refusal :=
  .next (if !s.taskActive 8 then s
    else
      let id : SlabId := ⟨ctx, job, k, sweep⟩
      let s := s.bump 0x803D 3 (b2n late)
      if s.walkNext != some id.key then s
      else
        let done := if id.key < s.bg.digestNext then 0 else s.bg.digestAt
        let s := { s with bg := { s.bg with digestAt := done + 1, digestNext := id.key + 1 } }
        (s.walkSlab id).bump 0x803D 0x0B 1)

end Sys2Proof.Machine
end

