-- ==== Sys2Proof/Machine/BackwardCommands.lean ====
section
/-! DEFINITION. The backward VECTOR operations, DROPOUT and MASK_ROWS (R149, R152, R156, R158). -/

namespace Sys2Proof.Machine

/-- VECTOR operation 0x20 (R149). -/
def execReluBwd (d : Dispatch) (s : State) : Host.Outcome State Fault Refusal :=
  .next (s.coreCommand d (force (force d.desc 7 0 5) 102 96 0x20))

/-- VECTOR operation 0x21 (R149). -/
def execLeakyReluBwd (d : Dispatch) (s : State) : Host.Outcome State Fault Refusal :=
  .next (s.coreCommand d (force (force d.desc 7 0 5) 102 96 0x21))

/-- VECTOR operation 0x22 (R149). -/
def execSigmoidBwd (d : Dispatch) (s : State) : Host.Outcome State Fault Refusal :=
  .next (s.coreCommand d (force (force d.desc 7 0 5) 102 96 0x22))

/-- VECTOR operation 0x23 (R149). -/
def execTanhBwd (d : Dispatch) (s : State) : Host.Outcome State Fault Refusal :=
  .next (s.coreCommand d (force (force d.desc 7 0 5) 102 96 0x23))

/-- VECTOR operation 0x24 (R149). -/
def execSoftplusBwd (d : Dispatch) (s : State) : Host.Outcome State Fault Refusal :=
  .next (s.coreCommand d (force (force d.desc 7 0 5) 102 96 0x24))

/-- VECTOR operation 0x25 (R149). -/
def execExpBwd (d : Dispatch) (s : State) : Host.Outcome State Fault Refusal :=
  .next (s.coreCommand d (force (force d.desc 7 0 5) 102 96 0x25))

/-- VECTOR operation 0x26 (R149). -/
def execSoftmaxBwd (d : Dispatch) (s : State) : Host.Outcome State Fault Refusal :=
  .next (s.coreCommand d (force (force d.desc 7 0 5) 102 96 0x26))

/-- VECTOR operation 0x27 (R152). -/
def execGeluBwd (d : Dispatch) (s : State) : Host.Outcome State Fault Refusal :=
  .next (s.coreCommand d (force (force d.desc 7 0 5) 102 96 0x27))

/-- VECTOR operation 0x28 (R152). -/
def execSiluBwd (d : Dispatch) (s : State) : Host.Outcome State Fault Refusal :=
  .next (s.coreCommand d (force (force d.desc 7 0 5) 102 96 0x28))

/-- VECTOR operation 0x29 (R156). -/
def execDropout (d : Dispatch) (s : State) : Host.Outcome State Fault Refusal :=
  .next (s.coreCommand d (force (force d.desc 7 0 5) 102 96 0x29))

/-- VECTOR operation 0x2a (R158). -/
def execMaskRows (d : Dispatch) (s : State) : Host.Outcome State Fault Refusal :=
  .next (s.coreCommand d (force (force d.desc 7 0 5) 102 96 0x2a))

end Sys2Proof.Machine
end

