-- ==== Sys2Proof/Machine/Security.lean ====
section
/-! DEFINITION. Image replacement, the security version, the life cycle, attestation (R492-R507). -/

namespace Sys2Proof.Machine

/-! ## The stored image (R492, R493) -/

/-- The stages in which IMAGE_CONTROL moves (R492): S0, S0_RECOVERY, S1_HELD. -/
def State.imageStage (s : State) : Bool := s.stage == 0 || s.stage == 1 || s.stage == 3

def State.imageControl (s : State) : Nat := s.get 0x1110 1

/-- A write of IMAGE_CONTROL that R493 does not list, or that comes after the request of a transition (R502). -/
def State.imageControlRefused (s : State) (v : Nat) : Bool :=
  !s.imageStage || s.sec.blow.isSome || s.imageControl == 2 || (v == 2 && s.imageControl != 1)

def State.imageErase (s : State) (off n : Nat) : State :=
  { s with sec := { s.sec with image := smDrop (fun k => decide (off ≤ k) && decide (k < off + n)) s.sec.image } }

/-- BEGIN, COMMIT or ABORT. -/
def State.imageControlWrite (s : State) (v : Nat) : State :=
  match v with
  | 1 => ((s.imageErase 0 4096).set 0x1110 2 0).set 0x1110 1 1
  | 2 => s.set 0x1110 1 2
  | _ => s.set 0x1110 1 0

/-- Writes of IMAGE_WINDOW and IMAGE_OFFSET outside WRITING are refused. -/
def State.imageWriteRefused (s : State) : Bool := !s.imageStage || s.imageControl != 1

/-- A block of image bytes stored at IMAGE_OFFSET, which advances. -/
def State.imageStore (s : State) (bs : List Byte) : State :=
  let off := s.get 0x1110 2
  let img := bs.zipIdx.foldl (fun m p => smSet 0#8 m (off + p.2) p.1) s.sec.image
  ({ s with sec := { s.sec with image := img } }).set 0x1110 2 (off + bs.length)

/-- IMAGE_CHECKS_END (R492, R493): checks 2 to 8 of R490 on the stored bytes. -/
def execImageChecksEnd (nvsBad : Bool) (s : State) : Host.Outcome State Fault Refusal :=
  .next (if s.imageControl ≠ 2 then s
    else
      let s := { s with sec := { s.sec with imageBad := nvsBad } }
      let code := s.imageCheck
      let s := (s.set 0x1110 4 code).set 0x1110 1 (if code = 0 then 3 else 4)
      if code = 0 then s else s.bump 0x803F 3 1)

/-! ## SVN_COMMIT (R494) -/

/-- SVN_FLOOR bits are blown up to the running image's SVN. -/
def State.svnCommit (s : State) : State :=
  let n := max s.sec.svnFloor (leAt s.sec.running 6 1)
  ({ s with sec := { s.sec with svnFloor := n } }).set 0x1102 3 n

/-! ## The life cycle (R499-R504) -/

/-- A signature that verifies under the key of the running image; there is none in S0_RECOVERY. -/
def State.praholtSigned (s : State) (data sig : List Byte) : Bool :=
  s.sec.running != [] && Config.mldsaVerify (slice s.sec.running 64 1952) data sig

/-- The transitions of R500. -/
def lcAllowed (fr goal : Nat) : Bool :=
  (fr == 0 && goal == 1) || (fr == 1 && goal == 2) || (fr == 2 && goal == 3) || (fr == 3 && goal == 1) || (decide (fr < 4) && goal == 4)

/-- The token at LC_TOKEN verifies and names this serial, state, target and challenge (R501). -/
def State.tokenOk (s : State) (goal : Nat) : Bool :=
  let t := leBytes 3360 (s.get 0x1100 3)
  leAt t 0 8 == s.get 0x1000 3 && leAt t 8 1 == s.lifecycle && leAt t 9 1 == goal && leAt t 10 6 == 0
    && leAt t 16 32 == s.get 0x1100 4 && leAt t 3357 3 == 0 && s.praholtSigned (t.take 48) (slice t 48 3309)

/-- The endorsement verifies over serial, MAC and identity public key (R496). -/
def State.endorsed (s : State) : Bool :=
  let data := leBytes 8 (s.get 0x1000 3) ++ leBytes 6 (s.get 0x1000 4) ++ leBytes 2 0 ++ leBytes 1952 (s.get 0x1101 1)
  s.praholtSigned data (leBytes 3309 (s.get 0x1101 2))

/-- LC_RESULT of a request (R502): the first condition that fails, 0 when it is accepted. -/
def State.lcResult (s : State) (goal : Nat) : Nat :=
  let fr := s.lifecycle
  let ic := s.imageControl
  if !(s.imageStage || s.inS2) then 1
  else if s.inS2 && (s.sched.ctxs.any (fun x => x.phase != .free) || s.pairState != 0) then 2
  else if !(ic == 0 || ic == 3 || ic == 4) then 3
  else if goal == 1 && !s.tokenOk goal then 4
  else if fr == 1 && goal == 2 && !s.endorsed then 5
  else if goal != 4 && decide (64 ≤ s.sec.lcCount) then 6
  else 0

/-- Step 1 of an accepted transition (R503): the record that is not in force gets the new state and count, and the fuses are to
be blown. -/
def State.lcTransition (s : State) (goal : Nat) : State :=
  let n := min 64 (s.sec.lcCount + 1)
  let spare := if (nth ⟨0, 0⟩ s.sec.records 0).count = s.sec.lcCount then 1 else 0
  { s with sec := { s.sec with records := modNth s.sec.records spare fun _ => ⟨goal, n⟩, blow := some goal } }

/-- A write of LC_REQUEST that names a transition of R500; false where R502 refuses it, or a transition is under way. Either way
the challenge is new. -/
def State.lcRequest (s : State) (goal : Nat) : State × Bool :=
  if s.sec.blow.isSome then (s.newChallenge, false)
  else
    let r := s.lcResult goal
    let s := (s.set 0x1100 5 r).newChallenge
    if r = 0 then (s.lcTransition goal, true) else (s.bump 0x803F 4 1, false)

/-! ## Attestation (R497, R498) -/

/-- Bytes 0-303 of a report. -/
def State.attestBody (s : State) (nonce : List Byte) : List Byte :=
  let unit (u : Nat) : List Byte :=
    let d := s.get 0x1010 (u + 1)
    leBytes 1 (fld d 15 8) ++ leBytes 1 (fld d 19 16) ++ leBytes 1 (s.dieState u) ++ leBytes 1 (s.tag u)
  let ident := if s.dieState 14 = 3 then s.pkg.ident else 0
  leBytes 4 0x54544144 ++ leBytes 2 1 ++ leBytes 2 3616 ++ padTo 32 nonce ++ leBytes 8 (s.get 0x1000 3)
    ++ leBytes 4 (s.get 0x1000 5) ++ leBytes 1 (leAt s.sec.running 6 1) ++ leBytes 1 s.sec.svnFloor
    ++ leBytes 1 s.lifecycle ++ leBytes 1 s.stage ++ leBytes 4 (s.get 0x6001 2) ++ leBytes 2 (s.get 0x6002 1) ++ leBytes 2 0
    ++ padTo 64 s.sec.measure ++ (List.range 4).flatMap (fun t => leBytes 8 (s.get 0x1020 (t + 1)))
    ++ (List.range 15).flatMap unit ++ leBytes 16 ident ++ leBytes 4 0
    ++ leBytes 64 (Config.shake256 64 (leBytes 1952 (s.get 0x1101 1)))

/-- A nonce is refused where no identity key exists (R497). -/
def State.attestRefused (s : State) : Bool := s.lifecycle == 0 || decide (4 ≤ s.lifecycle)

/-- A seat's nonce starts its report, or starts it again. -/
def State.attestStart (s : State) (seat : Nat) (nonce : List Byte) : State :=
  let s := if (nth none s.sec.signing seat).isSome then s.bump 0x803F 2 1 else s
  let s := (s.set 0x1120 (seat + 1) (leNat nonce)).set 0x1122 (seat + 1) 1
  let b := s.attestBody nonce
  { s with sec := { s.sec with signing := modNth s.sec.signing seat fun _ => some b } }

/-- SIGNING_COMPLETE (R497). -/
def execSigningComplete (seat : Nat) (s : State) : Host.Outcome State Fault Refusal :=
  .next (match nth none s.sec.signing seat, s.sec.key with
    | some b, some k =>
      let v := leNat (b ++ leBytes 3309 (Config.mldsaSign k b) ++ leBytes 3 0)
      let s := { s with sec := { s.sec with signing := modNth s.sec.signing seat fun _ => none } }
      ((s.set 0x1121 (seat + 1) v).set 0x1122 (seat + 1) 2).bump 0x803F 1 1
    | _, _ => s)

end Sys2Proof.Machine
end

