-- ==== Sys2Proof/Machine/Objects.lean ====
section
/-! DEFINITION. What each object of the dictionary reads (R394, R402), and the periodic telemetry record (R455, R456). -/

namespace Sys2Proof.Machine

/-! ## Stages (R402, R505) -/

/-- Is an object served in the stage (R402), or on a decommissioned device (R505)? -/
def State.serves (s : State) (i : Nat) : Bool :=
  if s.sec.decom then (decide (0x1000 ≤ i) && decide (i ≤ 0x11FF)) || i == 0x5030
  else served s.stage i

/-! ## Values composed from the state -/

/-- DIE_DESCRIPTOR (R30, R31): the descriptor read, with the tag of now and the CRC32 over what is reported. -/
def State.descriptor (s : State) (u : Nat) : Nat :=
  let d := s.get 0x1010 (u + 1)
  if d = 0 then 0
  else
    let bs := leBytes 60 (setFld d 31 24 (s.tag u))
    leNat (bs ++ leBytes 4 (crc32 bs))

/-- SEAT_STATE (R414). -/
def State.seatState (s : State) (i : Nat) : Nat :=
  let t := s.seat i
  if !t.bound then 0
  else leNat (leBytes 2 1 ++ leBytes 2 t.stream ++ leBytes 4 t.port ++ beBytes 16 t.addr
    ++ leBytes 4 (min (2 ^ 32 - 1) ((s.time - t.lastAt) * 40 / 1000000)) ++ leBytes 4 (s.semsHeld i).length ++ padTo 16 t.label)

def phaseCode : SPhase → Nat
  | .closed => 0 | .opened => 1 | .stopping => 2 | .pendingStart => 3

/-- STREAM_STATE (R354). -/
def State.streamState (s : State) (n : Nat) : Nat :=
  let x := s.strm n
  if x.phase = .closed then 0
  else phaseCode x.phase * 2 ^ 56 + x.req.kind * 2 ^ 48 + x.req.cls * 2 ^ 46 + (if x.req.kind = 1 then x.req.comp else 0) * 2 ^ 32
    + min 65535 (x.tx.cwnd / 65536) * 2 ^ 16 + min 65535 x.tx.retransmits

def ctxCode : CtxPhase → Nat
  | .free => 0 | .loading => 1 | .ready => 2 | .stopping => 3

/-- CTX_STATE (R329). -/
def State.ctxState (s : State) (c : Nat) : Nat :=
  let x := s.ctx c
  if x.phase = .free then 0
  else
    let lists := (s.sched.lists.filter fun l => l.model == x.model && l.waits).map fun l => l.members.length
    ctxCode x.phase * 2 ^ 24 + x.model * 2 ^ 16 + min 65535 (lists.foldl (· + ·) 0)

def slotCode : SlotPhase → Nat
  | .free => 0 | .loading => 1 | .active => 2 | .retiring => 3

/-- TABLE_SLOT_STATE (R229). -/
def State.tableSlotState (s : State) (k : Nat) : Nat :=
  let t := nth {} s.codec.slots k
  if t.phase = .free then 0
  else slotCode t.phase * 2 ^ 28 + t.gen * 2 ^ 24 + min 65535 (s.codec.refs.filter fun r => r.2 == k).length

/-- PLANER_STATE (R199). A job that waits for the partner's JOB_START reads as in its moment sweep (log 65). -/
def State.planerState (s : State) (h : Nat) : Nat :=
  match s.plan.job with
  | none => 0
  | some j =>
    let st := match j.phase with
      | .retained => 7
      | .halted => 6
      | .pack => 1
      | .ortho => 3
      | p => if (nth {} s.plan.halves h).arbit.isSome then 5 else if p = .weights then 4 else 2
    st * 2 ^ 24 + j.ctx * 2 ^ 18 + Pj.job j.desc.toNat

/-- SUSPECT_STATE (R469, R486): HELD while CTX_HOLD is 1. -/
def State.suspectState (s : State) (c : Nat) : Nat :=
  let v := s.get 0x6003 (c + 1)
  if s.get 0x6005 (c + 1) = 1 then 3 * 2 ^ 24 + v % 65536 else v

/-- The entry of the log with a sequence number; zero when it is not held (R481). -/
def State.logEntry (s : State) (seq : Nat) : Nat :=
  match s.logHeld.find? fun e => e.seq == seq % 2 ^ 32 with
  | some e => leNat e.bytes
  | none => 0

def State.newestSeq (s : State) : Nat := (s.logHeld.getLast?.map (·.seq)).getD 0

/-- LOG_WINDOW (R481) as a stream reads it. -/
def State.logWindow (s : State) (stream k : Nat) : Nat :=
  match s.seatOf stream with
  | some t => s.logEntry (s.get 0x6031 (t + 1) + k - 1)
  | none => s.logEntry (s.newestSeq + 2 ^ 32 - 63 + k - 1)

/-- DUMP_DIRECTORY and DUMP_WINDOW (R484). -/
def State.dumpDirectory (s : State) (k : Nat) : Nat :=
  match nth none s.log.slots k with
  | some d => leNat (leBytes 4 d.seq ++ leBytes 1 d.domType ++ leBytes 1 d.domIndex ++ leBytes 1 d.cause ++ leBytes 1 0
      ++ leBytes 4 d.bytes.length)
  | none => 0

def State.dumpWindow (s : State) (stream : Nat) : Nat :=
  match s.seatOf stream with
  | some t => match nth none s.log.slots (s.get 0x6042 (t + 1)) with
    | some d => leNat (slice d.bytes (s.get 0x6042 (t + 3)) 4096)
    | none => 0
  | none => 0

/-- PAVANE_DEVIATION (R426, R443): a measured value, free within 10 ppm while the reference is PRESENT, else within 1%. -/
def State.deviation (s : State) : Nat :=
  let bound : Int := if s.get 0x2100 2 = 1 then 10 else 10000
  ofSigned 32 (max (-bound) (min bound (Config.pavaneDeviation s.time)))

/-- The value that a stream reads from an object. -/
def State.readObj (s : State) (stream i k : Nat) : Nat :=
  if 0x8000 ≤ i then s.ctrAt i k
  else if 0x3080 ≤ i ∧ i ≤ 0x30FF then s.streamState ((i - 0x3080) * 128 + (k - 1))
  else match i with
    | 0x1010 => s.descriptor (k - 1)
    | 0x1110 => if k = 3 then leNat (s.imageBytes (s.get 0x1110 2) 4096) else s.get i k
    | 0x2100 => if k = 1 then s.deviation else s.get i k
    | 0x3011 => (s.net.streams.filter fun e => e.2.phase != .closed).length
    | 0x3020 => s.seatState (k - 1)
    | 0x4000 => s.ctxState (k - 1)
    | 0x4113 => (s.istream (k - 1)).arrived % 2 ^ 64 + (s.istream (k - 1)).claim % 2 ^ 64 * 2 ^ 64
    | 0x4114 =>
      let d := s.dict (k - 1)
      if d.loaded then 2 * 2 ^ 30 + d.ctx * 2 ^ 24 + d.entries else 0
    | 0x4115 => ((List.range 128).filter fun n => (s.istream n).kind == 4 && s.intakeState n != 0 && s.intakeState n != 4).length
    | 0x4200 => s.tableSlotState (k - 1)
    | 0x4201 =>
      let t := nth {} s.codec.slots (k - 1)
      if t.phase = .free then 0 else leAt t.image 140 4
    | 0x4202 => min 255 s.codec.waiting.length
    | 0x4330 => s.planerState (k - 1)
    | 0x4332 => (s.plan.drifted.filter fun d => d.ctx == k - 1).length
    | 0x4334 => b2n s.paired
    | 0x5010 =>
      let x := s.ctx (k - 1)
      if x.phase = .free then 0 else x.partBase + x.partSize * 2 ^ 64
    | 0x5011 =>
      let x := s.ctx (k - 1)
      if x.phase = .free then 0 else x.cacheBase * 2 ^ 16 + x.cacheUnits
    | 0x5101 => s.bgState (k - 1)
    | 0x6003 => s.suspectState (k - 1)
    | 0x6030 => if k = 1 then s.newestSeq else (s.logHeld.head?.map (·.seq)).getD 0
    | 0x6032 => s.logWindow stream k
    | 0x6041 => s.dumpDirectory (k - 1)
    | 0x6043 => s.dumpWindow stream
    | _ => s.get i k

/-! ## Periodic telemetry (R455, R456) -/

/-- Does a TELEMETRY_ITEM value name an implemented object of at most 8 bytes, or none (R459)? -/
def itemOk (v : Nat) : Bool :=
  fld v 31 8 == 0 || match findRow (fld v 31 16) (fld v 15 8) with
    | some r => decide (r.ty.size ≤ 8)
    | none => false

/-- The entries of a periodic record, in subindex order. -/
def State.itemEntries (s : State) : List Byte :=
  (List.range 64).flatMap fun n =>
    let v := s.get 0x5110 (n + 1)
    let i := fld v 31 16
    let k := fld v 15 8
    match findRow i k with
    | some r => if v = 0 then [] else
        leBytes 2 i ++ leBytes 1 k ++ leBytes 1 r.ty.code ++ leBytes 4 0 ++ leBytes 8 (s.readObj 0x4000 i k)
    | none => []

/-- TELEMETRY_PERIOD (R456): a record on each TELEMETRY stream, but for those whose transmit window it cannot enter. -/
def execTelemetryPeriod (full : List Nat) (s : State) : Host.Outcome State Fault Refusal :=
  .next (if !s.taskActive 7 ∨ s.telemetry = [] then s
    else
      let es := s.itemEntries
      let head (n : Nat) : List Byte :=
        leBytes 4 s.bg.recSeq ++ leBytes 4 (s.us % 2 ^ 32) ++ leBytes 2 (es.length / 16)
          ++ leBytes 1 (if s.bg.missed.contains n then 2 else 0) ++ leBytes 1 s.stage ++ leBytes 4 0
      let missed := s.bg.missed
      let s := s.telemetry.foldl (fun (s : State) n =>
        if full.contains n then s.bump 0x803D 0x0A 1 else (s.txAppend n (head n ++ es)).bump 0x803D 9 1) s
      let late := s.telemetry.filter fun n => full.contains n
      let kept := missed.filter fun n => full.contains n
      { s with bg := { s.bg with recSeq := (s.bg.recSeq + 1) % 2 ^ 32, missed := firstListings (kept ++ late) } })

end Sys2Proof.Machine
end

