-- ==== Sys2Proof/Machine/Manage.lean ====
section
/-! DEFINITION. Management requests: READ, WRITE, DESCRIBE and the checks of R401, what a write of each object does, and
the commands that are writes of one object (R395-R412). -/

namespace Sys2Proof.Machine

/-! ## READ and DESCRIBE (R396, R399, R401, R536) -/

/-- Check 1 of R401 for READ, DESCRIBE and DESCRIBE_NEXT. -/
def plainOk (q : Req) : Bool := q.rsv == 0 && q.length == 0

/-- Checks 6 to 8 of R401: the reason that refuses a request for an object. -/
def State.objReason (s : State) (i k : Nat) : Option Nat :=
  if !indexKnown i then some 1 else if (findRow i k).isNone then some 2 else if !s.serves i then some 9 else none

/-- READ: its answer. -/
def State.mgmtRead (s : State) (q : Req) : Answer :=
  if !plainOk q then refusal q 0x0A
  else match s.objReason q.index q.sub, findRow q.index q.sub with
    | none, some r => { value := leBytes r.ty.size (s.readObj q.stream q.index q.sub), index := q.index, sub := q.sub }
    | some e, _ => refusal q e
    | none, none => refusal q 2

/-- MIN and MAX in force (R399, R449). -/
def State.limits (s : State) (r : Row) (i k : Nat) : Int × Int :=
  if i = 0x5102 ∧ k = 2 ∧ !bit (s.get 0x1020 1) 8 then (10, r.max) else (r.min, r.max)

def State.describe (s : State) (r : Row) (i k : Nat) : Answer :=
  { value := describeBytes r i k (s.limits r i k).1 (s.limits r i k).2, index := i, sub := k }

/-- DESCRIBE: its answer. -/
def State.mgmtDescribe (s : State) (q : Req) : Answer :=
  if !plainOk q then refusal q 0x0A
  else match s.objReason q.index q.sub, findRow q.index q.sub with
    | none, some r => s.describe r q.index q.sub
    | some e, _ => refusal q e
    | none, none => refusal q 2

/-- DESCRIBE_NEXT: its answer (R536). -/
def State.mgmtDescribeNext (s : State) (q : Req) : Answer :=
  if !plainOk q then refusal q 0x0A
  else match nextObject (objKey q.index q.sub) with
    | none => refusal q 0x0C
    | some key =>
      let i := key / 256
      let k := key % 256
      match s.serves i, findRow i k with
      | true, some r => s.describe r i k
      | _, _ => refusal { q with index := i, sub := k } 9

/-! ## WRITE: checks 15 and 16 of R401 -/

/-- A value without the reserved bits of its object (R10). -/
def definedBits (i k v : Nat) : Nat :=
  match i with
  | 0x1061 => setFld v 29 14 0
  | 0x2101 => if k = 3 then v % 16 else v
  | 0x3102 => setFld v 3 0 0
  | 0x4001 => setFld (setFld v 263 64 0) 12 1 0
  | 0x4110 => setFld (setFld (setFld v 279 50 0) 31 30 0) 15 14 0
  | 0x5020 => setFld (setFld (setFld v 71 66 0) 31 12 0) 3 0 0
  | 0x5110 => setFld v 7 0 0
  | 0x6040 => v % 16
  | _ => if 0x4310 ≤ i ∧ i ≤ 0x431F ∧ k = 0x0C then setFld (v % 8) 0 0 0 else v

/-- What a value must be beside its limits: its multiples, its relation to another object, its listed meanings. -/
def State.valueOk (s : State) (i k v : Nat) : Bool :=
  match i, k with
  | 0x1061, _ => fld v 31 30 != 3
  | 0x1100, 2 => lcAllowed s.lifecycle v
  | 0x1102, 4 => v == 1
  | 0x1110, 2 => v % 4096 == 0 && decide (v < 33554432)
  | 0x1110, 3 => decide (s.get 0x1110 2 + 4096 ≤ 33554432)
  | 0x3005, 2 => decide (v < s.get 0x3005 3)
  | 0x3005, 3 => decide (s.get 0x3005 2 < v)
  | 0x3010, 4 => decide (v ≤ s.get 0x3010 5)
  | 0x3010, 5 => decide (s.get 0x3010 4 ≤ v)
  | 0x3021, _ => v == 0 || decide (1000 ≤ v)
  | 0x3102, 1 => topoOk v
  | 0x5110, _ => itemOk v
  | 0x6000, _ => domExists (fld v 15 8) (fld v 7 0)
  | 0x6042, _ => decide (k ≤ 2) || v % 4096 == 0
  | _, _ => true

/-- Check 15 of R401. -/
def State.inRange (s : State) (r : Row) (i k v : Nat) : Bool :=
  let lim := s.limits r i k
  (match r.ty with
    | .octet _ | .fp32 => true
    | t => decide (lim.1 ≤ t.toInt v) && decide (t.toInt v ≤ lim.2))
    && (r.vals == [] || r.vals.contains v) && s.valueOk i k v

/-- The seat that a per-seat object belongs to: 0 A, 1 B. -/
def ownerSeat (i k : Nat) : Option Nat :=
  if i = 0x1120 ∨ i = 0x6031 then some (k - 1) else if i = 0x6042 then some ((k - 1) % 2) else none

/-- Check 16 of R401: the object's own state rule refuses the write. -/
def State.stateRefused (s : State) (seat i k v : Nat) : Bool :=
  (match ownerSeat i k with
    | some t => t != seat
    | none => false) ||
  match i, k with
  | 0x1101, _ => s.lifecycle != 1
  | 0x1102, _ => !(s.stage == 0 || s.inS2)
  | 0x1110, 1 => s.imageControlRefused v
  | 0x1110, _ => s.imageWriteRefused
  | 0x1120, _ => s.attestRefused
  | 0x2002, _ => v == 1 && s.deepIdleRefused
  | 0x3101, _ => s.roleRefused (k - 1) v
  | 0x3102, _ => s.topoRefused
  | 0x3110, _ => s.pairRefused v
  | 0x4001, _ => s.modelState (k - 1) != 0 && s.modelState (k - 1) != 6
  | 0x4110, _ => !s.intakeCfgOk (k - 1) v
  | 0x4111, _ => s.intakeState (k - 1) != 0 && s.intakeState (k - 1) != 4
  | 0x5100, _ => v == 1 && s.pauseRefused (k - 1)
  | 0x6000, _ => (match domUnit (fld v 15 8) (fld v 7 0) with
    | some u => s.dieState u == 5
    | none => false)
  | _, _ => false

/-! ## What a write does -/

/-- RESET_REQUEST (R486): the reset of a domain in service begins, or of the package in every stage; it reads 0. -/
def State.resetAsked (s : State) (t i : Nat) : State :=
  match domUnit t i with
  | none => s.resetBegin 6 0 5
  | some u => if s.retaining || !(s.dieState u == 3 || s.dieState u == 4) then s else s.resetBegin t i 5

/-- DEEP_IDLE_REQUEST (R434, R435). -/
def State.deepIdleWrite (s : State) (v : Nat) : State :=
  let deep := s.get 0x2002 1 == 2
  if v = 1 then (if deep then s.set 0x2002 2 1 else s.enterDeepIdle)
  else
    let s := s.set 0x2002 2 0
    if deep then { s with pkg := { s.pkg with exiting := true } } else s

/-- PORT_RETRAIN (R332): a training for FULL in S2. -/
def State.portRetrainWrite (s : State) : State := if s.inS2 then (s.trainHost true).set 0x3001 3 1 else s

/-- The drift marks of a context cleared (R198, R199); other values are ignored. -/
def State.driftWrite (s : State) (c v : Nat) : State :=
  if v = 0 then s.modPlan fun p => { p with drifted := p.drifted.filter fun d => d.ctx != c } else s

/-- The effect of a write that passed every check; `bs` is the value in bytes. -/
def State.writeEffect (s : State) (i k v : Nat) (bs : List Byte) : State :=
  if 0x1040 ≤ i ∧ i ≤ 0x1052 then (s.requestTraining (i - 0x1040)).set i 6 1
  else match i, k with
    | 0x1061, _ => s.siteRebind (k - 1) v
    | 0x1102, _ => s.svnCommit
    | 0x1110, 1 => s.imageControlWrite v
    | 0x1110, 3 => s.imageStore bs
    | 0x1120, _ => s.attestStart (k - 1) bs
    | 0x2002, _ => s.deepIdleWrite v
    | 0x3001, _ => s.portRetrainWrite
    | 0x3101, _ => s.writeRole (k - 1) v
    | 0x3102, _ => s.writeTopo v
    | 0x3110, _ => s.pairWrite v
    | 0x4002, _ => if v = 1 then s.loadModel (k - 1) else s.retireModel (k - 1)
    | 0x4110, _ => s.writeIntakeCfg (k - 1) v
    | 0x4332, _ => s.driftWrite (k - 1) v
    | 0x5021, _ => if v = 1 then s.tgenStart k else s.tgenStop k
    | 0x5100, _ => s.bgWrite (k - 1) v
    | 0x6000, _ => s.resetAsked (fld v 15 8) (fld v 7 0)
    | _, _ => s.set i k v

/-! ## Semaphores (R409, R410) -/

/-- A write of SEM_HOLDER from a seat: its answer. -/
def State.semWrite (s : State) (q : Req) (seat n v : Nat) : State × Answer :=
  let ok : Answer := { index := q.index, sub := q.sub }
  let busy : Answer := { ok with status := .seatBusy }
  let h := s.semHolder n
  let mine := h == seat + 1
  if v = 0 then (if h = 0 ∨ mine then (s.setSem n 0, ok) else (s, busy))
  else if mine then (s, ok)
  else
    let rivals := q.rivals.filter fun r => r != q.stream && (s.seatOf r).isSome
    let winner := (s.seat (s.get (0x7000 + n) 2)).stream
    let (s, r) := s.contest n q.stream rivals (h == 0) winner fun s => s.flipObj (0x7000 + n) 2
    match r with
    | some false => (s, { ok with status := .seatContested })
    | some true => ((s.setSem n (seat + 1)).bump 0x803B 3 1, ok)
    | none => if h = 0 then ((s.setSem n (seat + 1)).bump 0x803B 3 1, ok) else (s, busy)

/-! ## WRITE (R394, R401, R409-R412) -/

/-- Checks 10 to 14 of R401 for a seat's write: the answer that refuses it. -/
def State.writeBarred (s : State) (q : Req) (r : Row) (seat : Nat) : Option Answer :=
  let ok : Answer := { index := q.index, sub := q.sub }
  let sem := s.semHolder (semOf q.index q.sub)
  if r.acc = .ro then some (refusal q 3)
  else if q.length ≠ r.ty.size ∨ q.value.length ≠ r.ty.size then some (refusal q 4)
  else if r.acc ≠ .rws then none
  else if sem = seat + 1 then none
  else if sem = 0 then some (refusal q 7)
  else some { ok with status := .seatBusy }

/-- A seat's write that no earlier check refused: checks 15 and 16, then the effect. A MIRRORED write of a paired device is
answered when both devices have applied it (R386), so it gives no answer here. -/
def State.writeAccepted (s : State) (q : Req) (r : Row) (seat : Nat) : State × Option Answer :=
  let ok : Answer := { index := q.index, sub := q.sub }
  let v := definedBits q.index q.sub (leNat q.value)
  let bs := leBytes r.ty.size v
  let lc := q.index == 0x1100 && q.sub == 2
  if !s.inRange r q.index q.sub v then (if lc then s.newChallenge else s, some (refusal q 5))
  else if lc then
    let (s, good) := s.lcRequest v
    (s, some (if good then ok else refusal q 6))
  else if s.stateRefused seat q.index q.sub v then (s, some (refusal q 6))
  else if s.paired && mirrored q.index then (s.mirrorSubmit q.index q.sub bs q.stream q.tag, none)
  else (s.writeEffect q.index q.sub v bs, some ok)

/-- WRITE: its answer (R400, R401). -/
def State.mgmtWrite (s : State) (q : Req) : State × Option Answer :=
  if q.rsv ≠ 0 then (s, some (refusal q 0x0A))
  else match s.seatOf q.stream with
    | none => (s, some (refusal q 8))
    | some seat =>
      match s.objReason q.index q.sub, findRow q.index q.sub with
      | some e, _ => (s, some (refusal q e))
      | none, none => (s, some (refusal q 2))
      | none, some r =>
        match s.writeBarred q r seat with
        | some a => (s, some a)
        | none =>
          let v := leNat q.value
          if 0x7000 ≤ q.index ∧ q.index ≤ 0x70FF then
            if 2 ≤ v then (s, some (refusal q 5))
            else
              let (s, a) := s.semWrite q seat (q.index - 0x7000) v
              (s, some a)
          else s.writeAccepted q r seat

def State.runWrite (s : State) (q : Req) : State := s.request q 2 fun s => s.mgmtWrite q

/-! ## The commands -/

/-- READ (R396). -/
def execRead (q : Req) (s : State) : Host.Outcome State Fault Refusal :=
  .next (s.request q 1 fun s => (s, some (s.mgmtRead q)))

/-- WRITE (R396) of any object. -/
def execWrite (q : Req) (s : State) : Host.Outcome State Fault Refusal := .next (s.runWrite q)

/-- DESCRIBE (R399). -/
def execDescribe (q : Req) (s : State) : Host.Outcome State Fault Refusal :=
  .next (s.request q 3 fun s => (s, some (s.mgmtDescribe q)))

/-- DESCRIBE_NEXT (R536). -/
def execDescribeNext (q : Req) (s : State) : Host.Outcome State Fault Refusal :=
  .next (s.request q 4 fun s => (s, some (s.mgmtDescribeNext q)))

/-- The request of a command that writes one object, for any subindex of it. -/
def toObj (q : Req) (i : Nat) : Req := { q with index := i }

/-- The request of a command that writes one value of one byte to one object. -/
def toVal (q : Req) (i v : Nat) : Req := { q with index := i, value := leBytes 1 v }

/-- The same, at one subindex. -/
def toSub (q : Req) (i k v : Nat) : Req := { q with index := i, sub := k, value := leBytes 1 v }

/-- The semaphore that a request names: its index, or the first. -/
def semIndex (q : Req) : Nat := if 0x7000 ≤ q.index ∧ q.index ≤ 0x70FF then q.index else 0x7000

/-- SEM_ACQUIRE (R409). -/
def execSemAcquire (q : Req) (s : State) : Host.Outcome State Fault Refusal := .next (s.runWrite (toSub q (semIndex q) 1 1))

/-- SEM_RELEASE (R409). -/
def execSemRelease (q : Req) (s : State) : Host.Outcome State Fault Refusal := .next (s.runWrite (toSub q (semIndex q) 1 0))

/-- RETRAIN_REQUEST (R25, R29): the link by its index, T0 where the request names none. -/
def execRetrainRequest (q : Req) (s : State) : Host.Outcome State Fault Refusal :=
  .next (s.runWrite (toSub q (if 0x1040 ≤ q.index ∧ q.index ≤ 0x1052 then q.index else 0x1040) 6 1))

/-- OPEN_SITE_BIND (R46, R49). -/
def execOpenSiteBind (q : Req) (s : State) : Host.Outcome State Fault Refusal := .next (s.runWrite (toObj q 0x1061))

/-- DRIFTED_SLABS (R198, R199): 0 written. -/
def execDriftedSlabs (q : Req) (s : State) : Host.Outcome State Fault Refusal :=
  .next (s.runWrite { q with index := 0x4332, value := leBytes 4 0 })

/-- LOAD (R305). -/
def execLoad (q : Req) (s : State) : Host.Outcome State Fault Refusal := .next (s.runWrite (toVal q 0x4002 1))

/-- RETIRE (R311). -/
def execRetire (q : Req) (s : State) : Host.Outcome State Fault Refusal := .next (s.runWrite (toVal q 0x4002 2))

/-- INTAKE_CONFIG (R270). -/
def execIntakeConfig (q : Req) (s : State) : Host.Outcome State Fault Refusal := .next (s.runWrite (toObj q 0x4110))

/-- PORT_RETRAIN (R332). -/
def execPortRetrain (q : Req) (s : State) : Host.Outcome State Fault Refusal := .next (s.runWrite (toSub q 0x3001 3 1))

/-- PORT_ROLE (R358). -/
def execPortRole (q : Req) (s : State) : Host.Outcome State Fault Refusal := .next (s.runWrite (toObj q 0x3101))

/-- TOPOLOGY (R367). -/
def execTopology (q : Req) (s : State) : Host.Outcome State Fault Refusal :=
  .next (s.runWrite { q with index := 0x3102, sub := 1 })

/-- FORM (R380). -/
def execForm (q : Req) (s : State) : Host.Outcome State Fault Refusal := .next (s.runWrite (toSub q 0x3110 1 1))

/-- DONATE (R380). -/
def execDonate (q : Req) (s : State) : Host.Outcome State Fault Refusal := .next (s.runWrite (toSub q 0x3110 1 2))

/-- RECEIVE (R380). -/
def execReceive (q : Req) (s : State) : Host.Outcome State Fault Refusal := .next (s.runWrite (toSub q 0x3110 1 3))

/-- LEAVE (R380). -/
def execLeave (q : Req) (s : State) : Host.Outcome State Fault Refusal := .next (s.runWrite (toSub q 0x3110 1 0))

/-- TGEN_START (R260). -/
def execTgenStart (q : Req) (s : State) : Host.Outcome State Fault Refusal := .next (s.runWrite (toVal q 0x5021 1))

/-- TGEN_STOP (R260). -/
def execTgenStop (q : Req) (s : State) : Host.Outcome State Fault Refusal := .next (s.runWrite (toVal q 0x5021 2))

/-- DEEP_IDLE_REQUEST (R434). -/
def execDeepIdleRequest (q : Req) (s : State) : Host.Outcome State Fault Refusal := .next (s.runWrite (toSub q 0x2002 2 1))

/-- DEEP_IDLE_EXIT (R435). -/
def execDeepIdleExit (q : Req) (s : State) : Host.Outcome State Fault Refusal := .next (s.runWrite (toSub q 0x2002 2 0))

/-- KEEP_WARM (R428). -/
def execKeepWarm (q : Req) (s : State) : Host.Outcome State Fault Refusal :=
  .next (s.runWrite { q with index := 0x2101, sub := 3 })

/-- PAUSE (R458). -/
def execPause (q : Req) (s : State) : Host.Outcome State Fault Refusal := .next (s.runWrite (toVal q 0x5100 1))

/-- RUN (R458). -/
def execRun (q : Req) (s : State) : Host.Outcome State Fault Refusal := .next (s.runWrite (toVal q 0x5100 0))

/-- RESET_REQUEST (R486). -/
def execResetRequest (q : Req) (s : State) : Host.Outcome State Fault Refusal :=
  .next (s.runWrite { q with index := 0x6000, sub := 1 })

/-- CTX_HOLD (R469): 0 written. -/
def execCtxHold (q : Req) (s : State) : Host.Outcome State Fault Refusal := .next (s.runWrite (toVal q 0x6005 0))

/-- BEGIN (R492, R493). -/
def execBegin (q : Req) (s : State) : Host.Outcome State Fault Refusal := .next (s.runWrite (toSub q 0x1110 1 1))

/-- IMAGE_WINDOW (R492). -/
def execImageWindow (q : Req) (s : State) : Host.Outcome State Fault Refusal :=
  .next (s.runWrite { q with index := 0x1110, sub := 3 })

/-- IMAGE_OFFSET (R493). -/
def execImageOffset (q : Req) (s : State) : Host.Outcome State Fault Refusal :=
  .next (s.runWrite { q with index := 0x1110, sub := 2 })

/-- COMMIT (R492, R493). -/
def execCommit (q : Req) (s : State) : Host.Outcome State Fault Refusal := .next (s.runWrite (toSub q 0x1110 1 2))

/-- ABORT (R492, R493). -/
def execAbort (q : Req) (s : State) : Host.Outcome State Fault Refusal := .next (s.runWrite (toSub q 0x1110 1 3))

/-- SVN_COMMIT (R494). -/
def execSvnCommit (q : Req) (s : State) : Host.Outcome State Fault Refusal := .next (s.runWrite (toSub q 0x1102 4 1))

/-- LC_REQUEST (R500, R502). -/
def execLcRequest (q : Req) (s : State) : Host.Outcome State Fault Refusal :=
  .next (s.runWrite { q with index := 0x1100, sub := 2 })

/-- ATTEST_NONCE (R497). -/
def execAttestNonce (q : Req) (s : State) : Host.Outcome State Fault Refusal := .next (s.runWrite (toObj q 0x1120))

end Sys2Proof.Machine
end

