-- ==== Sys2Proof/Machine/MatrixCommands.lean ====
section
/-! DEFINITION. The matrix family and the window path (R119-R130). -/

namespace Sys2Proof.Machine

/-- MATMUL (R119): opcode 1. -/
def execMatmul (d : Dispatch) (s : State) : Host.Outcome State Fault Refusal :=
  .next (s.coreCommand d (force d.desc 7 0 1))

/-- CONV (R126): opcode 2. -/
def execConv (d : Dispatch) (s : State) : Host.Outcome State Fault Refusal :=
  .next (s.coreCommand d (force d.desc 7 0 2))

/-- CONV_GROUPED (R129): opcode 3. -/
def execConvGrouped (d : Dispatch) (s : State) : Host.Outcome State Fault Refusal :=
  .next (s.coreCommand d (force d.desc 7 0 3))

/-- POOL with POOL_OP 0 (R130): opcode 4. -/
def execMaxPooling (d : Dispatch) (s : State) : Host.Outcome State Fault Refusal :=
  .next (s.coreCommand d (force (force d.desc 7 0 4) 345 344 0))

/-- POOL with POOL_OP 1 (R130): opcode 4. -/
def execAveragePooling (d : Dispatch) (s : State) : Host.Outcome State Fault Refusal :=
  .next (s.coreCommand d (force (force d.desc 7 0 4) 345 344 1))

/-- POOL with POOL_OP 2 (R130): opcode 4. -/
def execSumPooling (d : Dispatch) (s : State) : Host.Outcome State Fault Refusal :=
  .next (s.coreCommand d (force (force d.desc 7 0 4) 345 344 2))

end Sys2Proof.Machine
end

