-- ==== Sys2Proof/Machine/Transport.lean ====
section
/-! DEFINITION. Raorn streams and the DATA messages (R338-R355, R533, R534). -/

namespace Sys2Proof.Machine

/-! ## Sequence numbers, windows, packets -/

def seqMod : Nat := 2 ^ 32

/-- Serial arithmetic modulo 2^32 (R338): `a` before `b`. -/
def seqLt (a b : Nat) : Bool := decide (0 < (b + seqMod - a) % seqMod) && decide ((b + seqMod - a) % seqMod < 2 ^ 31)

def seqNext (a : Nat) : Nat := (a + 1) % seqMod

/-- Bytes that a stream holds in the receive buffer. -/
def Strm.heldBytes (x : Strm) : Nat := x.rxBytes.length + (x.rxHeld.map fun h => h.2.length).foldl (· + ·) 0

def State.streamsOpen (s : State) : Nat := (s.net.streams.filter fun e => e.2.phase == .opened).length

/-- The window a stream advertises in bytes (R346). -/
def State.windowBytes (s : State) (x : Strm) : Nat :=
  min (16 * mib) (4096 + s.freeShared / max 1 s.streamsOpen) - x.heldBytes

/-- The SACK field: bit i when packet ACK + 1 + i has been received. -/
def Strm.sackBits (x : Strm) : Nat :=
  (List.range 64).foldl (fun n i =>
    if x.rxHeld.any fun h => h.1 == (x.rxNext + 1 + i) % seqMod then n + 2 ^ i else n) 0

def State.pcpOf (s : State) (cls : Nat) : Nat := s.get 0x3004 (cls + 1)

/-- A Raorn packet of a stream put on the fibre (R334, R338); what it acknowledges is then no longer due. -/
def State.emitRaorn (s : State) (n type flags seq : Nat) (payload : List Byte) : State :=
  let x := s.strm n
  let w := s.windowBytes x / 4096
  let ce := if x.ceSeen then 4 else 0
  let h := 2 ^ 252 + type * 2 ^ 248 + (flags + ce) * 2 ^ 240 + n * 2 ^ 224 + seq * 2 ^ 192 + x.rxNext * 2 ^ 160
    + x.sackBits * 2 ^ 96 + min w 65535 * 2 ^ 80 + payload.length * 2 ^ 64 + s.ns % seqMod * 2 ^ 32 + x.lastTs
  let pl := beBytes 32 h ++ payload
  let src := leBytes 16 s.ipv6
  let dst := leBytes 16 x.addr
  let udp (c : Nat) : List Byte := beBytes 2 s.net.portInForce ++ beBytes 2 x.port ++ beBytes 2 (8 + pl.length) ++ beBytes 2 c ++ pl
  let c := checksum6 src dst 17 (udp 0)
  let pkt := ipPacket (s.get 0x3003 2 * 4 + 2) 17 64 src dst (udp (if c = 0 then 65535 else c))
  (s.setStrm n { x with ackDue := false, rxLimit := max x.rxLimit (x.rxTotal + w * 4096) }).sendIp x.addr (s.pcpOf x.req.cls) pkt

/-- A packet that only acknowledges. -/
def State.emitAck (s : State) (n : Nat) : State := s.emitRaorn n 2 0 0 []

/-! ## Stopping (R342, R344) -/

/-- A stream enters STOPPING: its seat is lost, and a load pending on it fails (R308, R344, R407). -/
def State.streamStops (s : State) (n : Nat) : State :=
  let x := s.strm n
  let s := s.setStrm n { x with phase := .stopping }
  let s := s.loseSeatOf n
  if x.req.kind = 3 then
    let ms := (s.holders.filter fun h => h.2.phase == .loading && Rec.sourceStream h.2.record == n
      && s.modelState h.2.model == 2).map fun h => h.2.model
    ms.foldl State.failLoad s
  else s

/-- A RESET sent or received: unacknowledged data in both directions is discarded. -/
def State.streamReset (s : State) (n : Nat) : State :=
  let x := s.strm n
  let s := if x.phase = .opened then s.streamStops n else s
  let x := s.strm n
  (s.setStrm n { x with rxHeld := [], wasReset := true, tx := { x.tx with bytes := [], unacked := [], again := [] } }).bump 0x8039 0x0F 1

/-- RESET sent with a reason (R342). -/
def State.sendReset (s : State) (n reason : Nat) : State := (s.emitRaorn n 6 0 0 (leBytes 1 reason)).streamReset n

/-! ## Acknowledgements received (R345, R347) -/

/-- A congestion signal: at most one decrease per round trip. -/
def State.congestion (s : State) (n : Nat) : State :=
  let x := s.strm n
  if x.tx.recover.isSome then s
  else
    let c := max 65536 (x.tx.cwnd * s.get 0x3010 2 / 1000 / 65536 * 65536)
    (s.setStrm n { x with tx := { x.tx with cwnd := c, ssthresh := c, recover := some x.tx.nextSeq } }).bump 0x8039 0x0D 1

/-- One unacknowledged packet sent again. -/
def State.resendPkt (s : State) (n : Nat) (p : TxPkt) : State :=
  let x := s.strm n
  let again (q : TxPkt) : TxPkt := { q with sends := q.sends + 1, resent := true, sentAt := s.ns }
  let un := mapIf (fun q => q.seq == p.seq) again x.tx.unacked
  let s := s.setStrm n { x with tx := { x.tx with unacked := un, retransmits := x.tx.retransmits + 1 } }
  (s.bump 0x8039 8 1).emitRaorn n (if p.close then 5 else 1) 2 p.seq p.payload

/-! ## Sending (R345, R347, R348) -/

/-- A stream that retention does not serve (R352). -/
def State.unserved (s : State) (n : Nat) : Bool := s.retaining && (s.strm n).phase != .closed && (s.strm n).req.kind != 0

/-- Bytes of payload in flight. -/
def StrmTx.inFlight (t : StrmTx) : Nat := (t.unacked.map fun p => p.payload.length).foldl (· + ·) 0

/-- Has a stream a packet to send: one to be sent again, or data or its CLOSE, with room in both windows; is its priority not
paused? -/
def State.txReady (s : State) (n : Nat) (x : Strm) : Bool :=
  let live := x.phase == .opened || ((x.phase == .stopping || x.phase == .pendingStart) && !x.wasReset && !x.sentClose && x.closeIn)
  let work := if x.phase == .opened then x.tx.bytes != [] else true
  let room := decide (x.tx.unacked.length < x.tx.cwnd / 65536) && (x.tx.bytes == [] || decide (x.tx.inFlight < x.tx.peerWindow))
  ((live && work && room) || (x.phase != .closed && !x.wasReset && x.tx.again != []))
    && smGet 0 s.net.paused (s.pcpOf x.req.cls) == 0 && !s.unserved n

/-- The streams that have a packet to send, each with its class (R348). -/
def State.txAsks (s : State) : List (Nat × Nat) :=
  (s.net.streams.filter fun e => s.txReady e.1 e.2).map fun e => (e.1, e.2.req.cls)

/-- The next packet of a stream: one to be sent again, or new data, or the CLOSE. -/
def State.sendNext (s : State) (n : Nat) : State :=
  let x := s.strm n
  match x.tx.again with
  | q :: rest =>
    let s := s.setStrm n { x with tx := { x.tx with again := rest } }
    match x.tx.unacked.find? fun p => p.seq == q with
    | some p => s.resendPkt n p
    | none => s
  | [] =>
    let close := x.tx.bytes == []
    let len := min 8192 (min x.tx.bytes.length (x.tx.peerWindow - x.tx.inFlight))
    let pl := if close then [] else x.tx.bytes.take len
    let p : TxPkt := { seq := x.tx.nextSeq, payload := pl, close := close, sends := 1, sentAt := s.ns, resent := false, sacked := false }
    let t := { x.tx with bytes := x.tx.bytes.drop pl.length, nextSeq := seqNext x.tx.nextSeq, unacked := x.tx.unacked ++ [p] }
    (s.setStrm n { x with tx := t, sentClose := x.sentClose || close }).emitRaorn n (if close then 5 else 1) 0 p.seq pl

/-- TRANSMIT (R348): the next data packet, by class and then by the pointer, which moves only where streams contend (R91).
Acknowledgements are sent as soon as they are due, ahead of it. -/
def State.transmit (s : State) : State :=
  if !s.linked || s.txAsks == [] then s
  else
    let n := arbWinner s.net.txPtr s.txAsks
    let ptr := if 2 ≤ s.txAsks.length then (n + 1) % 16384 else s.net.txPtr
    ({ s with net := { s.net with txPtr := ptr } } : State).sendNext n

/-- A packet is to be sent again (R345): at once where its stream is the one that R348 lets send, else in its turn. -/
def State.sendAgain (s : State) (n : Nat) (p : TxPkt) : State :=
  let x := s.strm n
  let s := s.setStrm n { x with tx := { x.tx with again := x.tx.again ++ [p.seq] } }
  if s.txAsks.contains (n, x.req.cls) && arbWinner s.net.txPtr s.txAsks == n then s.transmit else s

/-- The round-trip estimate of RFC 6298 with one measurement in ns. -/
def rttUpdate (t : StrmTx) (rtt now : Nat) : StrmTx :=
  let r := rtt * 1000
  let t := { t with rtts := (t.rtts.filter fun (e : Nat × Nat) => decide (now ≤ e.1 + 10000000000)) ++ [(now, rtt)] }
  match t.srtt with
  | none => { t with srtt := some r, rttvar := r / 2 }
  | some m =>
    let d := if m < r then r - m else m - r
    { t with rttvar := (3 * t.rttvar + d) / 4, srtt := some ((7 * m + r) / 8) }

/-- The window after `k` packets newly acknowledged (R347): + 1 each below the threshold, else + 1 / cwnd each. -/
def grow (ss : Nat) : Nat → Nat → Nat
  | 0, c => c
  | k + 1, c => grow ss k (if c < ss then c + 65536 else c + 65536 * 65536 / max 1 c)

/-- The acknowledgement fields of a packet of the host. -/
def State.ackIn (s : State) (k : Packet) : State :=
  let n := k.stream
  let x := s.strm n
  let isNew (p : TxPkt) : Bool := seqLt p.seq k.ack
  let sackedNow (p : TxPkt) : Bool := (List.range 64).any fun i => bit k.sack i && p.seq == (k.ack + 1 + i) % seqMod
  let gone := x.tx.unacked.filter isNew
  let fresh := gone ++ x.tx.unacked.filter fun p => !isNew p && !p.sacked && sackedNow p
  let mark (p : TxPkt) : TxPkt := { p with sacked := p.sacked || sackedNow p }
  let left := (x.tx.unacked.filter fun p => !isNew p).map mark
  let rec' := match x.tx.recover with
    | some r => if seqLt k.ack r then some r else none
    | none => none
  let t := { x.tx with unacked := left, peerWindow := k.window * 4096, recover := rec',
                       again := x.tx.again.filter fun q => left.any fun p => p.seq == q && !p.sacked,
                       backoff := if gone = [] then x.tx.backoff else 0 }
  let sample := fresh != [] && fresh.all fun p => !p.resent
  let rtt := (s.ns + seqMod - k.tsEcho) % seqMod
  let t := if sample then rttUpdate t rtt s.ns else t
  let base := (listMin? (t.rtts.map (·.2))).getD rtt
  let late := sample && decide (base + s.get 0x3010 1 < rtt)
  let signal := bit k.flags 2 || late
  let t := if signal || rec'.isSome then t else { t with cwnd := grow t.ssthresh gone.length t.cwnd }
  let s := s.setStrm n { x with tx := t }
  let s := if signal then s.congestion n else s
  match left.find? fun p => !p.sacked with
  | none => s
  | some p =>
    let later := (left.filter fun q => q.sacked && seqLt p.seq q.seq).length
    if p.resent || (s.strm n).tx.again.contains p.seq || decide (later < 3) || decide (s.get 0x3010 6 ≤ p.sends) then s
    else ((s.sendAgain n p).bump 0x8039 9 1).congestion n

/-! ## Receipt (R339, R345, R346) -/

/-- Is a packet malformed by its header alone (R339)? -/
def packetBad (k : Packet) : Bool :=
  k.version != 1 || decide (8 ≤ k.flags) || k.rsv != 0 || k.len != k.payload.length || decide (8192 < k.len)
    || decide (16384 ≤ k.stream) || k.type == 0 || decide (7 ≤ k.type)

/-- A packet of a bound stream passes R339, or is counted and discarded; its TYPE is that of the row. -/
def State.raornIn (s : State) (type : Nat) (k : Packet) (run : State → State) : State :=
  if !s.linked then s
  else if packetBad k then s.bump 0x8039 6 1
  else if k.type ≠ type then s
  else
    let x := s.strm k.stream
    if x.phase = .closed ∨ x.addr ≠ k.addr ∨ x.port ≠ k.port then (s.bump 0x8039 6 1).bump 0x8039 7 1
    else if s.unserved k.stream then s
    else
      let s := { s with net := { s.net with rxLog := (s.net.rxLog.filter fun (e : Nat × Nat) => decide (s.time ≤ e.1 + 250000)) ++ [(s.time, k.len)] } }
      run (s.setStrm k.stream { x with ceSeen := k.ce })

/-- Held packets that now stand in order are delivered. -/
def Strm.advance (x : Strm) : Nat → Strm
  | 0 => x
  | f + 1 =>
    match x.rxHeld.find? fun h => h.1 == x.rxNext with
    | none => x
    | some h =>
      { x with rxNext := seqNext x.rxNext, rxBytes := x.rxBytes ++ h.2, rxTotal := x.rxTotal + h.2.length,
               rxHeld := x.rxHeld.filter fun g => g.1 != h.1 }.advance f

/-- The host's CLOSE takes its place in the order once every byte before it is delivered. -/
def Strm.takeClose (x : Strm) : Strm :=
  if x.closeAt = some x.rxNext ∧ !x.closeIn then { x with rxNext := seqNext x.rxNext, closeIn := true } else x

/-- Does a packet reach past the advertised window (R345)? What is known of its place are the bytes delivered and those held that
precede it. -/
def Strm.beyond (x : Strm) (k : Packet) : Bool :=
  let before := (x.rxHeld.filter fun h => seqLt h.1 k.seq).map fun h => h.2.length
  decide (x.rxLimit < x.rxTotal + before.foldl (· + ·) 0 + k.len) || x.closeIn
    || (match x.closeAt with | some c => !seqLt k.seq c | none => false)

/-- An acknowledgement is caused by a packet: by the first that it covers, or by the one that asks for it at once (R338). -/
def State.causeAck (s : State) (n ts : Nat) (atOnce : Bool) : State :=
  let x := s.strm n
  let s := s.setStrm n { x with ackDue := true, lastTs := if x.ackDue && !atOnce then x.lastTs else ts }
  if atOnce then s.emitAck n else s

/-- DATA (R345): duplicates, packets beyond the window, packets in order and out of order. A packet that is discarded has no other
effect. -/
def State.dataIn (s : State) (k : Packet) : State :=
  let n := k.stream
  let x := s.strm n
  if x.wasReset then s
  else if seqLt k.seq x.rxNext || x.rxHeld.any fun h => h.1 == k.seq then (s.bump 0x8039 0x0A 1).causeAck n k.ts true
  else if x.beyond k then s.bump 0x8039 0x0B 1
  else
    let s := s.ackIn k
    let x := s.strm n
    let inOrder := k.seq == x.rxNext
    let y := ({ x with rxHeld := x.rxHeld ++ [(k.seq, k.payload)] }.advance (x.rxHeld.length + 1)).takeClose
    (s.setStrm n y).pfcCheck.causeAck n k.ts (bit k.flags 0 || !inOrder || y.rxHeld != [])

/-- DATA (R345). -/
def execData (k : Packet) (s : State) : Host.Outcome State Fault Refusal := .next (s.raornIn 1 k fun s => s.dataIn k)

/-- ACK (R347). -/
def execAck (k : Packet) (s : State) : Host.Outcome State Fault Refusal :=
  .next (s.raornIn 2 k fun s => if (s.strm k.stream).wasReset then s else s.ackIn k)

/-- RAORN_ACK_TIMER (R345): an acknowledgement is due. -/
def execRaornAckTimer (n : Nat) (s : State) : Host.Outcome State Fault Refusal :=
  .next (if s.linked && (s.strm n).ackDue && !s.unserved n then s.emitAck n else s)

/-- A stop request in PENDING_START cancels the queued OPEN, and the stream reads STOPPING (R441). -/
def State.cancelOpen (s : State) (n : Nat) : State :=
  let x := s.strm n
  if x.phase = .pendingStart then s.setStrm n { x with phase := .stopping, queuedOpen := none } else s

/-- CLOSE (R342); in PENDING_START one that is no repeat of the stop's own cancels the queued OPEN (R441). -/
def execClose (k : Packet) (s : State) : Host.Outcome State Fault Refusal :=
  .next (s.raornIn 5 k fun s =>
    let n := k.stream
    let s := s.ackIn k
    let s := if (s.strm n).closeAt = some k.seq then s else s.cancelOpen n
    let x := s.strm n
    if x.wasReset then s
    else
      let s := if x.phase = .opened then s.streamStops n else s
      let x := s.strm n
      let x := if x.closeAt.isNone then { x with closeAt := some k.seq } else x
      (s.setStrm n x.takeClose).causeAck n k.ts true)

/-- RESET (R342, R441); one for a stream already reset is counted (R355). -/
def execReset (k : Packet) (s : State) : Host.Outcome State Fault Refusal :=
  .next (s.raornIn 6 k fun s =>
    let s := s.cancelOpen k.stream
    if (s.strm k.stream).wasReset then s.bump 0x8039 0x0F 1 else s.streamReset k.stream)

/-! ## OPEN (R341, R343, R533) -/

/-- The request an OPEN carries; none when check 1 of R533 fails. -/
def openReq (k : Packet) : Option OpenReq :=
  let kind := leAt k.payload 0 1
  let cls := leAt k.payload 1 1
  let comp := beNat (slice k.payload 2 2)
  if k.len = 16 ∧ kind ≤ 5 ∧ cls ≤ 3 ∧ comp < 16384 ∧ leAt k.payload 4 12 = 0 ∧ (kind = 1 ∨ comp = 0) then
    some ⟨k.seq, kind, cls, comp⟩
  else none

/-- OPEN_ACK of a stream or of a refused OPEN; it echoes the TS of the OPEN (R338). -/
def State.openAck (s : State) (n addr port ts seq result : Nat) : State :=
  let x := s.strm n
  if x.phase ≠ .closed ∧ x.addr = addr ∧ x.port = port then
    (s.setStrm n { x with lastTs := ts }).emitRaorn n 4 0 seq (leBytes 8 result)
  else
    let t : Strm := { addr := addr, port := port, lastTs := ts }
    ((s.setStrm n t).emitRaorn n 4 0 seq (leBytes 8 result)).setStrm n x

/-- Checks 4 and 5 of R533: 0 when both pass. -/
def State.openResult (s : State) (r : OpenReq) (addr port : Nat) : Nat :=
  let c := s.strm r.comp
  if r.kind ≠ 0 ∧ !s.inS2 then 2
  else if r.kind = 1 ∧ !(c.isOpen 2 && c.addr == addr && c.port == port) then 4
  else 0

/-- RAORN_PORT takes effect when no stream is open, IPV6_ADDRESS at each OPEN (R353). -/
def State.portTakes (s : State) : State :=
  if s.net.streams.all fun e => e.2.phase == .closed then { s with net := { s.net with portInForce := s.get 0x3003 3 } } else s

/-- A stream opens: the device's initial sequence number is free (log 5), the peer's window is that of its OPEN (R338). -/
def State.openStream (s : State) (n addr port : Nat) (r : OpenReq) (win ts : Nat) : State :=
  let (s, isn) := s.fresh 32
  let t : StrmTx := { nextSeq := seqNext isn, cwnd := s.get 0x3010 3 * 65536, peerWindow := win }
  let x : Strm := { phase := .opened, req := r, addr := addr, port := port, devIsn := isn, rxNext := seqNext r.seq, tx := t }
  (s.setStrm n x).openAck n addr port ts isn 0

/-- OPEN of a stream that is free, through checks 4 and 5. -/
def State.tryOpen (s : State) (n addr port : Nat) (r : OpenReq) (win ts : Nat) : State :=
  match s.openResult r addr port with
  | 0 => s.openStream n addr port r win ts
  | e => s.openAck n addr port ts 0 e

/-- OPEN (R341, R343, R533). -/
def State.openIn (s : State) (k : Packet) : State :=
  if !s.linked then s
  else if packetBad k then s.bump 0x8039 6 1
  else if k.type ≠ 3 then s
  else
    let n := k.stream
    let s := ({ s with net := { s.net with addrInForce := s.get 0x3002 2 } }).portTakes
    let x := s.strm n
    let mine := x.addr == k.addr && x.port == k.port
    match openReq k with
    | none => s.openAck n k.addr k.port k.ts 0 3
    | some r =>
      match x.phase with
      | .closed => s.tryOpen n k.addr k.port r (k.window * 4096) k.ts
      | .opened => s.openAck n k.addr k.port k.ts (if mine && r == x.req then x.devIsn else 0) (if mine && r == x.req then 0 else 1)
      | .stopping =>
        if !mine then s.openAck n k.addr k.port k.ts 0 1
        else if r = x.req then s.openAck n k.addr k.port k.ts x.devIsn 0
        else
          let s := s.setStrm n { x with phase := .pendingStart, queuedOpen := some r, queuedWin := k.window * 4096, queuedTs := k.ts }
          (s.bump 0x803C 8 1).openAck n k.addr k.port k.ts 0 5
      | .pendingStart =>
        if mine && r == x.req then s.openAck n k.addr k.port k.ts x.devIsn 0
        else s.openAck n k.addr k.port k.ts 0 (if mine && x.queuedOpen == some r then 5 else 1)

def execOpen (k : Packet) (s : State) : Host.Outcome State Fault Refusal := .next (s.openIn k)

/-! ## Stop complete (R342-R344) -/

/-- Unclaimed sample data of the intake streams on a Raorn stream is discarded and counted (R344). -/
def State.dropUnclaimed (s : State) (n : Nat) : State :=
  ((List.range 128).filter fun k => s.intakeState k == 1 && Ic.raorn (s.intakeCfg k) == n && !s.siteBound n).foldl (fun s k =>
    let x := s.istream k
    let gone := x.samples.filter fun m => decide (x.claim ≤ m.n)
    let s := gone.foldl (fun s m => s.bump 0x8037 0x0B m.data.length) s
    s.setIstream k { x with samples := x.samples.filter fun m => decide (m.n < x.claim), arrived := x.arrived - gone.length }) s

/-- STREAM_STOP_COMPLETE: both CLOSEs acknowledged, or a RESET. -/
def State.stopStream (s : State) (n : Nat) : State :=
  let x := s.strm n
  let ready := x.wasReset || (x.closeIn && x.sentClose && x.tx.unacked == [])
  if (x.phase ≠ .stopping ∧ x.phase ≠ .pendingStart) ∨ !ready then s
  else
    let s := if x.req.kind = 4 then s.dropUnclaimed n else s
    let s := ((s.setStrm n {}).portTakes).pfcCheck
    match x.phase, x.queuedOpen with
    | .pendingStart, some r => s.tryOpen n x.addr x.port r x.queuedWin x.queuedTs
    | _, _ => s

def execStreamStopComplete (n : Nat) (s : State) : Host.Outcome State Fault Refusal := .next (s.stopStream n)

/-! ## Sending (R345, R347, R348) -/

def execTransmit (s : State) : Host.Outcome State Fault Refusal := .next s.transmit

/-- RTO_EXPIRY (R345, R347): the first unacknowledged packet is sent again, or the stream is reset at MAX_SENDS. -/
def State.rtoExpiry (s : State) (n : Nat) : State :=
  let x := s.strm n
  match x.tx.unacked.find? fun p => !p.sacked with
  | none => s
  | some p =>
    if !s.linked || x.phase == .closed || x.wasReset || s.unserved n then s
    else
      let s := s.bump 0x8039 0x0C 1
      if s.get 0x3010 6 ≤ p.sends then s.sendReset n 1
      else
        let half := max 131072 (x.tx.cwnd / 2)
        let s := s.setStrm n { x with tx := { x.tx with ssthresh := half, cwnd := 65536, backoff := x.tx.backoff + 1 } }
        s.sendAgain n p

def execRtoExpiry (n : Nat) (s : State) : Host.Outcome State Fault Refusal := .next (s.rtoExpiry n)

/-! ## DATA messages (R351, R534) -/

/-- A message's bytes on its stream; `body` where its OP carries one. -/
def dataBytes (op : Nat) (q : DataReq) (body : Bool) : List Byte :=
  leBytes 24 (op + q.ctx * 2 ^ 8 + q.model * 2 ^ 16 + q.reason * 2 ^ 24 + q.tag * 2 ^ 32 + q.off * 2 ^ 64 + q.len * 2 ^ 128)
    ++ if body then pad8 q.body else []

/-- A whole message taken from a DATA stream in S2. -/
def State.dataMsg (s : State) (op : Nat) (q : DataReq) (body : Bool) (run : State → State) : State :=
  if !(s.strm q.stream).hears 3 (dataBytes op q body) || !s.inS2 || (body && q.body.length != q.len) then s
  else run (s.consume q.stream (dataBytes op q body))

/-- DATA_ERROR. -/
def State.dataError (s : State) (q : DataReq) (reason : Nat) : State := s.txAppend q.stream (dataHeader 7 0 0 reason q.tag 0 0)

/-- The first reason of a WRITE or READ in the order of R534: 0x04, 0x01, 0x02. -/
def State.rangeReason (s : State) (q : DataReq) : Nat :=
  if q.model ≠ 0 ∨ q.reason ≠ 0 then 4
  else if 64 ≤ q.ctx ∨ (s.ctx q.ctx).phase ≠ .ready then 1
  else if (s.ctx q.ctx).partSize < q.off + q.len then 2
  else 0

/-- WRITE (R351). -/
def execDataWrite (q : DataReq) (s : State) : Host.Outcome State Fault Refusal :=
  .next (s.dataMsg 1 q true fun s =>
    match s.rangeReason q with
    | 0 =>
      let before := s.mem
      let s := s.partWrite q.ctx q.off q.body
      let s := (s.met q.ctx (s.partTouch q.ctx q.off q.len true 0) before).1
      s.txAppend q.stream (dataHeader 2 0 0 0 q.tag 0 0)
    | r => s.dataError q r)

/-- READ (R351). -/
def execDataRead (q : DataReq) (s : State) : Host.Outcome State Fault Refusal :=
  .next (s.dataMsg 3 q false fun s =>
    match s.rangeReason q with
    | 0 =>
      let bs := s.partRead q.ctx q.off q.len
      let s := (s.met q.ctx (s.partTouch q.ctx q.off q.len false 0) s.mem).1
      s.txAppend q.stream (dataHeader 4 0 0 0 q.tag 0 q.len ++ pad8 bs)
    | r => s.dataError q r)

/-- IMAGE (R308, R351). -/
def execImage (q : DataReq) (s : State) : Host.Outcome State Fault Refusal :=
  .next (s.dataMsg 6 q true fun s =>
    let r := s.record q.model
    let pending := s.modelState q.model == 2 && Rec.sourceStream r == q.stream
    if q.ctx ≠ 0 ∨ q.reason ≠ 0 ∨ q.off ≠ 0 ∨ (pending && q.len != Rec.imageBytes r) then s.dataError q 4
    else if !pending then s.dataError q 3
    else s.imageIn q.model q.body)

/-- DEVICE_OP_FROM_HOST (R534): WRITE_DONE, READ_DATA, LOAD_REQUEST or DATA_ERROR from the host. -/
def execDeviceOpFromHost (op : Nat) (q : DataReq) (s : State) : Host.Outcome State Fault Refusal :=
  .next (if op = 2 ∨ op = 4 ∨ op = 5 ∨ op = 7 then s.dataMsg op q (op == 4) fun s => s.dataError q 4 else s)

/-- RESERVED_DATA_OP (R534): the stream is reset with reason 0x02. -/
def execReservedDataOp (op : Nat) (q : DataReq) (s : State) : Host.Outcome State Fault Refusal :=
  .next (if (1 ≤ op ∧ op ≤ 7) ∨ 256 ≤ op then s else s.dataMsg op q false fun s => s.sendReset q.stream 2)

end Sys2Proof.Machine
end

