-- ==== Sys2Proof/Machine/VectorCommands.lean ====
section
/-! DEFINITION. The forward VECTOR operations (R132, R151). -/

namespace Sys2Proof.Machine

/-- VECTOR operation 0x0 (R132). -/
def execConvert (d : Dispatch) (s : State) : Host.Outcome State Fault Refusal :=
  .next (s.coreCommand d (force (force d.desc 7 0 5) 102 96 0x0))

/-- VECTOR operation 0x1 (R132). -/
def execAdd (d : Dispatch) (s : State) : Host.Outcome State Fault Refusal :=
  .next (s.coreCommand d (force (force d.desc 7 0 5) 102 96 0x1))

/-- VECTOR operation 0x2 (R132). -/
def execSub (d : Dispatch) (s : State) : Host.Outcome State Fault Refusal :=
  .next (s.coreCommand d (force (force d.desc 7 0 5) 102 96 0x2))

/-- VECTOR operation 0x3 (R132). -/
def execMul (d : Dispatch) (s : State) : Host.Outcome State Fault Refusal :=
  .next (s.coreCommand d (force (force d.desc 7 0 5) 102 96 0x3))

/-- VECTOR operation 0x4 (R132). -/
def execFma (d : Dispatch) (s : State) : Host.Outcome State Fault Refusal :=
  .next (s.coreCommand d (force (force d.desc 7 0 5) 102 96 0x4))

/-- VECTOR operation 0x5 (R132). -/
def execMax (d : Dispatch) (s : State) : Host.Outcome State Fault Refusal :=
  .next (s.coreCommand d (force (force d.desc 7 0 5) 102 96 0x5))

/-- VECTOR operation 0x6 (R132). -/
def execMin (d : Dispatch) (s : State) : Host.Outcome State Fault Refusal :=
  .next (s.coreCommand d (force (force d.desc 7 0 5) 102 96 0x6))

/-- VECTOR operation 0x7 (R132). -/
def execRelu (d : Dispatch) (s : State) : Host.Outcome State Fault Refusal :=
  .next (s.coreCommand d (force (force d.desc 7 0 5) 102 96 0x7))

/-- VECTOR operation 0x8 (R132). -/
def execLeakyRelu (d : Dispatch) (s : State) : Host.Outcome State Fault Refusal :=
  .next (s.coreCommand d (force (force d.desc 7 0 5) 102 96 0x8))

/-- VECTOR operation 0x9 (R132). -/
def execSigmoid (d : Dispatch) (s : State) : Host.Outcome State Fault Refusal :=
  .next (s.coreCommand d (force (force d.desc 7 0 5) 102 96 0x9))

/-- VECTOR operation 0xa (R132). -/
def execTanh (d : Dispatch) (s : State) : Host.Outcome State Fault Refusal :=
  .next (s.coreCommand d (force (force d.desc 7 0 5) 102 96 0xa))

/-- VECTOR operation 0xb (R132). -/
def execSoftplus (d : Dispatch) (s : State) : Host.Outcome State Fault Refusal :=
  .next (s.coreCommand d (force (force d.desc 7 0 5) 102 96 0xb))

/-- VECTOR operation 0xc (R132). -/
def execExp (d : Dispatch) (s : State) : Host.Outcome State Fault Refusal :=
  .next (s.coreCommand d (force (force d.desc 7 0 5) 102 96 0xc))

/-- VECTOR operation 0xd (R132). -/
def execLog (d : Dispatch) (s : State) : Host.Outcome State Fault Refusal :=
  .next (s.coreCommand d (force (force d.desc 7 0 5) 102 96 0xd))

/-- VECTOR operation 0xe (R132). -/
def execRecip (d : Dispatch) (s : State) : Host.Outcome State Fault Refusal :=
  .next (s.coreCommand d (force (force d.desc 7 0 5) 102 96 0xe))

/-- VECTOR operation 0xf (R132). -/
def execRsqrt (d : Dispatch) (s : State) : Host.Outcome State Fault Refusal :=
  .next (s.coreCommand d (force (force d.desc 7 0 5) 102 96 0xf))

/-- VECTOR operation 0x10 (R151). -/
def execGelu (d : Dispatch) (s : State) : Host.Outcome State Fault Refusal :=
  .next (s.coreCommand d (force (force d.desc 7 0 5) 102 96 0x10))

/-- VECTOR operation 0x11 (R151). -/
def execSilu (d : Dispatch) (s : State) : Host.Outcome State Fault Refusal :=
  .next (s.coreCommand d (force (force d.desc 7 0 5) 102 96 0x11))

/-- VECTOR operation 0x18 (R72, R132). -/
def execReduceSum (d : Dispatch) (s : State) : Host.Outcome State Fault Refusal :=
  .next (s.coreCommand d (force (force d.desc 7 0 5) 102 96 0x18))

/-- VECTOR operation 0x19 (R132). -/
def execReduceMax (d : Dispatch) (s : State) : Host.Outcome State Fault Refusal :=
  .next (s.coreCommand d (force (force d.desc 7 0 5) 102 96 0x19))

/-- VECTOR operation 0x1a (R132). -/
def execSoftmax (d : Dispatch) (s : State) : Host.Outcome State Fault Refusal :=
  .next (s.coreCommand d (force (force d.desc 7 0 5) 102 96 0x1a))

end Sys2Proof.Machine
end

