-- ==== Sys2Proof/Machine/Dispatch.lean ====
section
/-! DEFINITION. The dispatch: one arm per command, each a direct call of its meaning. -/

namespace Sys2Proof.Machine

def exec (i : Instr) (s : State) : Host.Outcome State Fault Refusal :=
  match i with
  | .matmul d => Sys2Proof.Machine.execMatmul d s
  | .conv d => Sys2Proof.Machine.execConv d s
  | .convGrouped d => Sys2Proof.Machine.execConvGrouped d s
  | .maxPooling d => Sys2Proof.Machine.execMaxPooling d s
  | .averagePooling d => Sys2Proof.Machine.execAveragePooling d s
  | .sumPooling d => Sys2Proof.Machine.execSumPooling d s
  | .convert d => Sys2Proof.Machine.execConvert d s
  | .add d => Sys2Proof.Machine.execAdd d s
  | .sub d => Sys2Proof.Machine.execSub d s
  | .mul d => Sys2Proof.Machine.execMul d s
  | .fma d => Sys2Proof.Machine.execFma d s
  | .max d => Sys2Proof.Machine.execMax d s
  | .min d => Sys2Proof.Machine.execMin d s
  | .relu d => Sys2Proof.Machine.execRelu d s
  | .leakyRelu d => Sys2Proof.Machine.execLeakyRelu d s
  | .sigmoid d => Sys2Proof.Machine.execSigmoid d s
  | .tanh d => Sys2Proof.Machine.execTanh d s
  | .softplus d => Sys2Proof.Machine.execSoftplus d s
  | .exp d => Sys2Proof.Machine.execExp d s
  | .log d => Sys2Proof.Machine.execLog d s
  | .recip d => Sys2Proof.Machine.execRecip d s
  | .rsqrt d => Sys2Proof.Machine.execRsqrt d s
  | .gelu d => Sys2Proof.Machine.execGelu d s
  | .silu d => Sys2Proof.Machine.execSilu d s
  | .reduceSum d => Sys2Proof.Machine.execReduceSum d s
  | .reduceMax d => Sys2Proof.Machine.execReduceMax d s
  | .softmax d => Sys2Proof.Machine.execSoftmax d s
  | .reluBwd d => Sys2Proof.Machine.execReluBwd d s
  | .leakyReluBwd d => Sys2Proof.Machine.execLeakyReluBwd d s
  | .sigmoidBwd d => Sys2Proof.Machine.execSigmoidBwd d s
  | .tanhBwd d => Sys2Proof.Machine.execTanhBwd d s
  | .softplusBwd d => Sys2Proof.Machine.execSoftplusBwd d s
  | .expBwd d => Sys2Proof.Machine.execExpBwd d s
  | .softmaxBwd d => Sys2Proof.Machine.execSoftmaxBwd d s
  | .geluBwd d => Sys2Proof.Machine.execGeluBwd d s
  | .siluBwd d => Sys2Proof.Machine.execSiluBwd d s
  | .dropout d => Sys2Proof.Machine.execDropout d s
  | .maskRows d => Sys2Proof.Machine.execMaskRows d s
  | .copy d => Sys2Proof.Machine.execCopy d s
  | .fill d => Sys2Proof.Machine.execFill d s
  | .squeeze d => Sys2Proof.Machine.execSqueeze d s
  | .expand d => Sys2Proof.Machine.execExpand d s
  | .barrier d => Sys2Proof.Machine.execBarrier d s
  | .loadreg d => Sys2Proof.Machine.execLoadreg d s
  | .allReduce d => Sys2Proof.Machine.execAllReduce d s
  | .broadcast d => Sys2Proof.Machine.execBroadcast d s
  | .allGather d => Sys2Proof.Machine.execAllGather d s
  | .pack d => Sys2Proof.Machine.execPack d s
  | .moment2Update d => Sys2Proof.Machine.execMoment2Update d s
  | .orthoUpdate d => Sys2Proof.Machine.execOrthoUpdate d s
  | .tableLoad d => Sys2Proof.Machine.execTableLoad d s
  | .tableRetire d => Sys2Proof.Machine.execTableRetire d s
  | .batch d => Sys2Proof.Machine.execBatch d s
  | .dictLoad d => Sys2Proof.Machine.execDictLoad d s
  | .dictUnload d => Sys2Proof.Machine.execDictUnload d s
  | .detok d => Sys2Proof.Machine.execDetok d s
  | .read q => Sys2Proof.Machine.execRead q s
  | .write q => Sys2Proof.Machine.execWrite q s
  | .describe q => Sys2Proof.Machine.execDescribe q s
  | .describeNext q => Sys2Proof.Machine.execDescribeNext q s
  | .bind q => Sys2Proof.Machine.execBind q s
  | .unbind q => Sys2Proof.Machine.execUnbind q s
  | .semAcquire q => Sys2Proof.Machine.execSemAcquire q s
  | .semRelease q => Sys2Proof.Machine.execSemRelease q s
  | .retrainRequest q => Sys2Proof.Machine.execRetrainRequest q s
  | .openSiteBind q => Sys2Proof.Machine.execOpenSiteBind q s
  | .driftedSlabs q => Sys2Proof.Machine.execDriftedSlabs q s
  | .load q => Sys2Proof.Machine.execLoad q s
  | .retire q => Sys2Proof.Machine.execRetire q s
  | .intakeConfig q => Sys2Proof.Machine.execIntakeConfig q s
  | .portRetrain q => Sys2Proof.Machine.execPortRetrain q s
  | .portRole q => Sys2Proof.Machine.execPortRole q s
  | .topology q => Sys2Proof.Machine.execTopology q s
  | .form q => Sys2Proof.Machine.execForm q s
  | .donate q => Sys2Proof.Machine.execDonate q s
  | .receive q => Sys2Proof.Machine.execReceive q s
  | .leave q => Sys2Proof.Machine.execLeave q s
  | .tgenStart q => Sys2Proof.Machine.execTgenStart q s
  | .tgenStop q => Sys2Proof.Machine.execTgenStop q s
  | .deepIdleRequest q => Sys2Proof.Machine.execDeepIdleRequest q s
  | .deepIdleExit q => Sys2Proof.Machine.execDeepIdleExit q s
  | .keepWarm q => Sys2Proof.Machine.execKeepWarm q s
  | .pause q => Sys2Proof.Machine.execPause q s
  | .run q => Sys2Proof.Machine.execRun q s
  | .resetRequest q => Sys2Proof.Machine.execResetRequest q s
  | .ctxHold q => Sys2Proof.Machine.execCtxHold q s
  | .begin q => Sys2Proof.Machine.execBegin q s
  | .imageWindow q => Sys2Proof.Machine.execImageWindow q s
  | .imageOffset q => Sys2Proof.Machine.execImageOffset q s
  | .commit q => Sys2Proof.Machine.execCommit q s
  | .abort q => Sys2Proof.Machine.execAbort q s
  | .svnCommit q => Sys2Proof.Machine.execSvnCommit q s
  | .lcRequest q => Sys2Proof.Machine.execLcRequest q s
  | .attestNonce q => Sys2Proof.Machine.execAttestNonce q s
  | .commandList q => Sys2Proof.Machine.execCommandList q s
  | .admitList m => Sys2Proof.Machine.execAdmit m s
  | .admitLimit list => Sys2Proof.Machine.execAdmitLimit list s
  | .mergeWindow list => Sys2Proof.Machine.execMergeWindow list s
  | .loadDecision => Sys2Proof.Machine.execLoadDecision s
  | .loadFailed m => Sys2Proof.Machine.execLoadFailed m s
  | .modelStopComplete m retried repairs ok => Sys2Proof.Machine.execModelStopComplete m retried repairs ok s
  | .timeout flight unacked stuck => Sys2Proof.Machine.execTimeout flight unacked stuck s
  | .abortLimit flight half => Sys2Proof.Machine.execAbortLimit flight half s
  | .data k => Sys2Proof.Machine.execData k s
  | .ack k => Sys2Proof.Machine.execAck k s
  | .open k => Sys2Proof.Machine.execOpen k s
  | .close k => Sys2Proof.Machine.execClose k s
  | .reset k => Sys2Proof.Machine.execReset k s
  | .streamStopComplete n => Sys2Proof.Machine.execStreamStopComplete n s
  | .raornAckTimer n => Sys2Proof.Machine.execRaornAckTimer n s
  | .rtoExpiry n => Sys2Proof.Machine.execRtoExpiry n s
  | .transmit => Sys2Proof.Machine.execTransmit s
  | .dataWrite q => Sys2Proof.Machine.execDataWrite q s
  | .dataRead q => Sys2Proof.Machine.execDataRead q s
  | .image q => Sys2Proof.Machine.execImage q s
  | .deviceOpFromHost op q => Sys2Proof.Machine.execDeviceOpFromHost op q s
  | .reservedDataOp op q => Sys2Proof.Machine.execReservedDataOp op q s
  | .filteredFrame fcs => Sys2Proof.Machine.execFilteredFrame fcs s
  | .neighborSolicitation src mac target => Sys2Proof.Machine.execNeighborSolicitation src mac target s
  | .neighborAdvertisement target mac solicited override => Sys2Proof.Machine.execNeighborAdvertisement target mac solicited override s
  | .echoRequest src dst ident seq data => Sys2Proof.Machine.execEchoRequest src dst ident seq data s
  | .pfc mask times => Sys2Proof.Machine.execPfc mask times s
  | .pfcPauseEnd p => Sys2Proof.Machine.execPfcPauseEnd p s
  | .pfcRefresh => Sys2Proof.Machine.execPfcRefresh s
  | .linkDown => Sys2Proof.Machine.execLinkDown s
  | .linkUp => Sys2Proof.Machine.execLinkUp s
  | .portFallback => Sys2Proof.Machine.execPortFallback s
  | .idleLoss seat => Sys2Proof.Machine.execIdleLoss seat s
  | .openSiteData hdr payload => Sys2Proof.Machine.execOpenSiteData hdr payload s
  | .openSiteEndOfSample hdr => Sys2Proof.Machine.execOpenSiteEndOfSample hdr s
  | .openSiteCredit hdr => Sys2Proof.Machine.execOpenSiteCredit hdr s
  | .openSiteLinkDown => Sys2Proof.Machine.execOpenSiteLinkDown s
  | .tenonFlit hop seq ok reply bytes => Sys2Proof.Machine.execTenonFlit hop seq ok reply bytes s
  | .retryRateExceeded link => Sys2Proof.Machine.execRetryRateExceeded link s
  | .tenonTrainingDone r crcBad => Sys2Proof.Machine.execTenonTrainingDone r crcBad s
  | .dvFlit p bs => Sys2Proof.Machine.execDvFlit p bs s
  | .dvAckTimer p => Sys2Proof.Machine.execDvAckTimer p s
  | .dvReplayTimer p => Sys2Proof.Machine.execDvReplayTimer p s
  | .dvReplayRateExceeded p => Sys2Proof.Machine.execDvReplayRateExceeded p s
  | .portTrainingDone p failed ns => Sys2Proof.Machine.execPortTrainingDone p failed ns s
  | .portRetry p => Sys2Proof.Machine.execPortRetry p s
  | .portStopComplete p => Sys2Proof.Machine.execPortStopComplete p s
  | .heartbeatSend => Sys2Proof.Machine.execHeartbeatSend s
  | .heartbeat n => Sys2Proof.Machine.execHeartbeat n s
  | .heartbeatAck n => Sys2Proof.Machine.execHeartbeatAck n s
  | .failover => Sys2Proof.Machine.execFailover s
  | .pairHello serial measurement control busy => Sys2Proof.Machine.execPairHello serial measurement control busy s
  | .pairHelloTimeout => Sys2Proof.Machine.execPairHelloTimeout s
  | .pairLeave => Sys2Proof.Machine.execPairLeave s
  | .pairStopComplete => Sys2Proof.Machine.execPairStopComplete s
  | .mirrorWrite index sub value => Sys2Proof.Machine.execMirrorWrite index sub value s
  | .mirrorApply seq index sub value => Sys2Proof.Machine.execMirrorApply seq index sub value s
  | .batchClaim e => Sys2Proof.Machine.execBatchClaim e s
  | .jobStart start => Sys2Proof.Machine.execJobStart start s
  | .agree r again => Sys2Proof.Machine.execAgree r again s
  | .recheck k sum grad old => Sys2Proof.Machine.execRecheck k sum grad old s
  | .katResult k pass => Sys2Proof.Machine.execKatResult k pass s
  | .slabXfer k sweep bs => Sys2Proof.Machine.execSlabXfer k sweep bs s
  | .driftFetch c job k sweep => Sys2Proof.Machine.execDriftFetch c job k sweep s
  | .collHead role id bs => Sys2Proof.Machine.execCollHead role id bs s
  | .collExp role chunk id off flags bs => Sys2Proof.Machine.execCollExp role chunk id off flags bs s
  | .collSum role chunk id off flags bs => Sys2Proof.Machine.execCollSum role chunk id off flags bs s
  | .collData role chunk id off flags bs => Sys2Proof.Machine.execCollData role chunk id off flags bs s
  | .collAbort role id bs => Sys2Proof.Machine.execCollAbort role id bs s
  | .donorQuiesced => Sys2Proof.Machine.execDonorQuiesced s
  | .refillBegin r => Sys2Proof.Machine.execRefillBegin r s
  | .refillData c off bs crc => Sys2Proof.Machine.execRefillData c off bs crc s
  | .refillEnd crc => Sys2Proof.Machine.execRefillEnd crc s
  | .slabStaged h err again => Sys2Proof.Machine.execSlabStaged h err again s
  | .katDone h pass => Sys2Proof.Machine.execKatDone h pass s
  | .journalDrain => Sys2Proof.Machine.execJournalDrain s
  | .planerResume => Sys2Proof.Machine.execPlanerResume s
  | .tableLoadSlotTaken => Sys2Proof.Machine.execTableLoadSlotTaken s
  | .engineGrant sq => Sys2Proof.Machine.execEngineGrant sq s
  | .sample k hdr data => Sys2Proof.Machine.execSample k hdr data s
  | .sampleResolved k n => Sys2Proof.Machine.execSampleResolved k n s
  | .timeBudget k n => Sys2Proof.Machine.execTimeBudget k n s
  | .roiReread k n => Sys2Proof.Machine.execRoiReread k n s
  | .intakeStopComplete k => Sys2Proof.Machine.execIntakeStopComplete k s
  | .hbmRefresh h c => Sys2Proof.Machine.execHbmRefresh h c s
  | .hbmTempSample md temps => Sys2Proof.Machine.execHbmTempSample md temps s
  | .prefetch ctx line learned => Sys2Proof.Machine.execPrefetch ctx line learned s
  | .tgenRunDone sub acc bad first lanes retried repairs ok => Sys2Proof.Machine.execTgenRunDone sub acc bad first lanes retried repairs ok s
  | .wipeDone retried repairs bad => Sys2Proof.Machine.execWipeDone retried repairs bad s
  | .hbmScrub a err skipped last => Sys2Proof.Machine.execHbmScrub a err skipped last s
  | .sramScrub a err last => Sys2Proof.Machine.execSramScrub a err last s
  | .tenonEq link => Sys2Proof.Machine.execTenonEq link s
  | .hbmRetrain sub gap => Sys2Proof.Machine.execHbmRetrain sub gap s
  | .hbmRetrainWaitExpiry sub => Sys2Proof.Machine.execHbmRetrainWaitExpiry sub s
  | .opticalTune e heater limit => Sys2Proof.Machine.execOpticalTune e heater limit s
  | .avs targets => Sys2Proof.Machine.execAvs targets s
  | .avsStep rail => Sys2Proof.Machine.execAvsStep rail s
  | .avsNack rail => Sys2Proof.Machine.execAvsNack rail s
  | .nvsWear block writes => Sys2Proof.Machine.execNvsWear block writes s
  | .telemetryPeriod full => Sys2Proof.Machine.execTelemetryPeriod full s
  | .digestWalk ctx job k sweep late => Sys2Proof.Machine.execDigestWalk ctx job k sweep late s
  | .pauseLimit task => Sys2Proof.Machine.execPauseLimit task s
  | .groupIdleDelay g => Sys2Proof.Machine.execGroupIdleDelay g s
  | .dieIdleDelay d => Sys2Proof.Machine.execDieIdleDelay d s
  | .clockStartComplete pll k => Sys2Proof.Machine.execClockStartComplete pll k s
  | .clockStopComplete pll k => Sys2Proof.Machine.execClockStopComplete pll k s
  | .clockLoss u => Sys2Proof.Machine.execClockLoss u s
  | .dieSilence u => Sys2Proof.Machine.execDieSilence u s
  | .crashDump type index silent => Sys2Proof.Machine.execCrashDump type index silent s
  | .rejoin type index pass desc runs retried repairs => Sys2Proof.Machine.execRejoin type index pass desc runs retried repairs s
  | .iodLoss => Sys2Proof.Machine.execIodLoss s
  | .suspectReplay envs => Sys2Proof.Machine.execSuspectReplay envs s
  | .signingComplete seat => Sys2Proof.Machine.execSigningComplete seat s
  | .imageChecksEnd nvsBad => Sys2Proof.Machine.execImageChecksEnd nvsBad s
  | .suppliesGood rails nvsBad => Sys2Proof.Machine.execSuppliesGood rails nvsBad s
  | .resetN => Sys2Proof.Machine.execResetN s
  | .s1Entry => Sys2Proof.Machine.execS1Entry s
  | .hbmTrainingDone trained => Sys2Proof.Machine.execHbmTrainingDone trained s
  | .s1End failed => Sys2Proof.Machine.execS1End failed s
  | .s1Timeout => Sys2Proof.Machine.execS1Timeout s
  | .switchover => Sys2Proof.Machine.execSwitchover s
  | .vaoMainRestored => Sys2Proof.Machine.execVaoMainRestored s
  | .mainRailOutOfRange rail => Sys2Proof.Machine.execMainRailOutOfRange rail s
  | .writeBackComplete => Sys2Proof.Machine.execWriteBackComplete s
  | .returnFromRetention => Sys2Proof.Machine.execReturnFromRetention s
  | .refClockEvent state => Sys2Proof.Machine.execRefClockEvent state s
  | .dieTempSample temps => Sys2Proof.Machine.execDieTempSample temps s
  | .thermtripRelease => Sys2Proof.Machine.execThermtripRelease s
  | .tripRailsKept => Sys2Proof.Machine.execTripRailsKept s
  | .pmbAlert rail out => Sys2Proof.Machine.execPmbAlert rail out s
  | .powerWindow mw => Sys2Proof.Machine.execPowerWindow mw s
  | .laserLow e => Sys2Proof.Machine.execLaserLow e s
  | .slabHome h => Sys2Proof.Machine.execSlabHome h s
  | .powerLoss => Sys2Proof.Machine.execPowerLoss s
  | .laserRestored e => Sys2Proof.Machine.execLaserRestored e s
  | .deepIdleExitComplete => Sys2Proof.Machine.execDeepIdleExitComplete s
  | .pllLockTimeout u => Sys2Proof.Machine.execPllLockTimeout u s
  | .dieSelfTestDone u r => Sys2Proof.Machine.execDieSelfTestDone u r s
  | .opticalEnginesTuned bad => Sys2Proof.Machine.execOpticalEnginesTuned bad s
  | .openSiteDiscovery partner streaming width rate ident => Sys2Proof.Machine.execOpenSiteDiscovery partner streaming width rate ident s
  | .testAccessPort code => Sys2Proof.Machine.execTestAccessPort code s

end Sys2Proof.Machine
end

