-- ==== Sys2Proof/Decode.lean ====
section
/-! DEFINITION. Commands spelled by words: the rows of the operation table give none. -/

namespace Sys2Proof

/-- The command that a word spells by the table's bits: no row of spec/opcode_table.json gives bits (log 1). -/
def decodeTableWord (_nbits _w : Nat) : Option Instr := none

end Sys2Proof
end

