-- ==== Sys2Proof/Safety.lean ====
section
/-! DEFINITION. The terms that the statements use: what a safe run is, what a command leaves behind, and when a command is
ready to have its own effect. -/

namespace Sys2Proof
open Machine

/-- A step answers a next state. -/
def StepsOn (s : State) : Prop := ∃ t, step s = .next t

/-- The canonical form of memory, uncorrectable units, objects and counters: what makes equal contents equal data. -/
structure Canonical (s : State) : Prop where
  mem : Memory.wf s.mem = true
  ue : smWf false s.ue = true
  obj : smWf 0 s.obj = true
  ctr : smWf 0 s.ctr = true

/-- No command waits (the queue is empty). -/
def Idle (s : State) : Prop := s.pending = []

/-- The command answers a next state of which `P` holds. -/
def Completes (i : Instr) (s : State) (P : State → Prop) : Prop := ∃ t, exec i s = .next t ∧ P t

/-- A counter has risen by `n`; it stays at its largest value. -/
def Rises (s t : State) (index sub n : Nat) : Prop := t.ctrAt index sub = min (s.ctrAt index sub + n) ctrMax

/-- No counter reads more than its largest value. -/
def CountersBounded (s : State) : Prop := ∀ i k, s.ctrAt i k ≤ ctrMax

/-- Nothing is under way that a reset, a fence or a wipe would have to end. -/
structure Quiet (s : State) : Prop where
  flights : s.sched.flights = []
  lists : s.sched.lists = []
  barriers : s.cores.barriers = []
  resets : s.pkg.resets = []
  interrupted : s.sched.interrupted = []
  suspects : s.sched.suspects = []

/-! ## Core commands (R103, R136, R315) -/

/-- The state in which an entry is dispatched: taken from its list, if it stands next in one (R105, R319). -/
def taken (s : State) (d : Dispatch) (desc : Desc) : State := (s.take d desc).1

/-- An entry that passes the dispatch checks of R136. -/
structure Checked (s : State) (d : Dispatch) (desc : Desc) : Prop where
  may : s.mayDispatch d.ctx = true
  hdr : hdrOk d.hdr 0 = true
  checks : descOk desc.toNat ((taken s d desc).ctx d.ctx).tensors = true
  set : (taken s d desc).setOk d.ctx (s.coresOf d.ctx desc) = true

/-- Such an entry that no core of its set makes wait: none is being reset, no replay of another context runs on one, and none of
its slots waits (R77, R80, R96, R105, R461, R468). -/
structure CoreReady (s : State) (d : Dispatch) (desc : Desc) : Prop extends Checked s d desc where
  free : (s.coresOf d.ctx desc).any (s.coreWaits d.ctx) = false
  slots : ((s.coresOf d.ctx desc).zipIdx.any fun p => s.slotWaits d.ctx desc.toNat p.1 p.2) = false

/-- A SQUEEZE or EXPAND that passes its dispatch checks, with the ACTIVE generation that it binds (R213, R215, R222), and that no core
of its set makes wait. -/
structure StreamReady (s : State) (d : Dispatch) (desc : Desc) : Prop where
  table : s.tableBusy d.ctx = false
  may : s.mayDispatch d.ctx = true
  hdr : hdrOk d.hdr 0 = true
  checks : codecMoveOk desc.toNat ((taken s d desc).ctx d.ctx).tensors = true
  bound : binds desc.toNat = true → (s.activeSlot (Mv.gen desc.toNat)).isSome = true
  set : (taken s d desc).setOk d.ctx (s.coresOf d.ctx desc) = true
  free : (s.coresOf d.ctx desc).any (s.coreWaits d.ctx) = false
  slots : ((s.coresOf d.ctx desc).zipIdx.any fun p => s.slotWaits d.ctx desc.toNat p.1 p.2) = false

/-- The entry is a weight-gradient command of a frozen layer (R146). -/
def FrozenEntry (s : State) (d : Dispatch) (desc : Desc) : Prop :=
  (bit d.hdr 3 && (taken s d desc).frozen d.ctx (Cmd.layer desc.toNat)) = true

/-- The addresses of a dispatched command. -/
def addrsOf (s : State) (d : Dispatch) (desc : Desc) : List Addr := (s.take d desc).2.addrs

/-- No completion of the entry brings a row to a member of a merged list (R327). -/
def Unmerged (s : State) (d : Dispatch) (desc : Desc) : Prop := ∀ a ∈ addrsOf s d desc, a.merged = false

/-- Every core finishes, and executes the command. -/
def Env.Healthy (e : Env) : Prop := e.hang = [] ∧ e.illegal = []

/-- MATMUL or CONV. -/
def isMatrix (desc : Desc) : Bool := Cmd.opcode desc.toNat == 1 || Cmd.opcode desc.toNat == 2

/-- The state in which an entry's cores take it: the groups that its cores lie in are awake (R430). -/
def awake (s : State) (d : Dispatch) (desc : Desc) : State := (taken s d desc).wake (s.coresOf d.ctx desc)

/-- The state in which the cores of an entry begin: the run's costs counted, and the contests it meets decided. -/
def coreStart (s : State) (d : Dispatch) (desc : Desc) : State :=
  let a := awake s d desc
  let cores := s.coresOf d.ctx desc
  a.applyEnv d.env cores (isMatrix desc) (a.contestOk d.ctx cores (Cmd.opcode desc.toNat)
    (cores.zipIdx.flatMap fun p => a.reach d.ctx desc.toNat p.1 p.2))

/-- The identifier of the command. -/
def coreId (s : State) (d : Dispatch) (desc : Desc) : Nat := (awake s d desc).sched.nextId

/-- The state and the statuses that the run on the cores of the set leaves. -/
def coreRun (s : State) (d : Dispatch) (desc : Desc) : State × List Status :=
  (coreStart s d desc).runCores d.env (coreId s d desc) d.ctx desc.toNat (s.coresOf d.ctx desc).zipIdx

/-- The state in which the first core runs: every walk declared, and the lines that are due read ahead (R242). -/
def coreBegun (s : State) (d : Dispatch) (desc : Desc) : State :=
  let id := coreId s d desc
  ((s.coresOf d.ctx desc).zipIdx.foldl (fun s p =>
    s.declareWalks d.ctx id (s.reach d.ctx desc.toNat p.1 p.2)) (coreStart s d desc)).prefetchDue d.ctx d.env.prefetched

/-- The completions sent between two states: address and status of each, oldest first. -/
def Sends (s t : State) (l : List (Addr × Status)) : Prop :=
  t.sched.comps.map (fun r => (r.addr, r.status)) = s.sched.comps.map (fun r => (r.addr, r.status)) ++ l

/-- The final completions of one command: one to each of its addresses (R14). -/
def finals (l : List Addr) (st : Status) : List (Addr × Status) := l.map fun a => (a, st)

/-- What no core command changes: the waiting commands, time, seats, the fabric, the Planer, the intake, security, the
fuses. -/
structure OutsideCores (s t : State) : Prop where
  pending : t.pending = s.pending
  time : t.time = s.time
  seats : t.seats = s.seats
  fab : t.fab = s.fab
  plan : t.plan = s.plan
  intake : t.intake = s.intake
  sec : t.sec = s.sec
  fuses : t.pkg.fuses = s.pkg.fuses

/-- The addresses that the cores store to, core by core, each on the state that the cores before it left. -/
def storedOn (e : Env) : State → Nat → Nat → List (Nat × Nat) → List Nat
  | _, _, _, [] => []
  | s, c, d, p :: r =>
    ((coreTouches (s.view c p.1 p.2) ⟨s.mem, s.ctr⟩ d).filter (·.write)).map (·.addr)
      ++ storedOn e (s.runOnCore e c d p.1 p.2).1 c d r

/-- The addresses that an entry's cores store to. -/
def coreStores (s : State) (d : Dispatch) (desc : Desc) : List Nat :=
  storedOn d.env (coreBegun s d desc) d.ctx desc.toNat (s.coresOf d.ctx desc).zipIdx

/-- The statuses of a core command: those of its cores, and EXPANDER_STALL where the expander stalled a matrix command (R228). -/
def coreStatuses (s : State) (d : Dispatch) (desc : Desc) : List Status :=
  (coreRun s d desc).2 ++ if isMatrix desc && d.env.stallCycles != 0 then [.expanderStall] else []

/-- What the completion statements say of a core command: ready and not frozen, it runs on every core of its set, memory and
cores are as that run leaves them, its declared streams end, and each of its addresses gets the one final completion of R16. Of
a merged list, what reading the rows of ROW_OUT meets comes after that. -/
def CoreCompletes (i : Instr) (s : State) (d : Dispatch) (desc : Desc) : Prop :=
  CoreReady s d desc → ¬ FrozenEntry s d desc → Completes i s fun t =>
    t.cores = (coreRun s d desc).1.cores
      ∧ Sends (taken s d desc) t (finals (addrsOf s d desc) (firstStatus (coreStatuses s d desc)))
      ∧ (Unmerged s d desc → t.mem = (coreRun s d desc).1.mem ∧ t.ue = (coreRun s d desc).1.ue
        ∧ t.memsys = ((coreRun s d desc).1.undeclare (coreId s d desc)).memsys)

/-- No location is uncorrectable: no stored unit, no cached line, no lost line (R249, R254). -/
structure NoErrors (s : State) : Prop where
  stored : s.ue = []
  held : ∀ c ∈ s.memsys.lines, c.bad = []
  lost : s.memsys.lost = []

/-- No location is uncorrectable, and none becomes so while the command runs. -/
structure Clean (s : State) (d : Dispatch) : Prop extends NoErrors s where
  newStored : d.env.newUe = []
  newHeld : d.env.newCacheUe = []

/-- What the frame statements say of a core command: beside the cores, completions and counters nothing changes, and of
memory only the bytes that its cores store to; of the objects only the clocks and POWER_STATE, which a wake-up moves. -/
def CoreFrame (i : Instr) (s : State) (d : Dispatch) (desc : Desc) : Prop :=
  CoreReady s d desc → ¬ FrozenEntry s d desc → Canonical s → Clean s d → Completes i s fun t =>
    OutsideCores s t
      ∧ (∀ a, a ∉ coreStores s d desc → memRd t.mem a = memRd s.mem a)
      ∧ ∀ x k, k < 256 → x ≠ 0x2002 → x ≠ 0x2110 → x ≠ 0x2111 → t.get x k = s.get x k

/-- What a skipped or refused core command leaves as it was. -/
structure CoresUntouched (s t : State) : Prop where
  outside : OutsideCores s t
  mem : t.mem = s.mem
  ue : t.ue = s.ue
  cores : t.cores = s.cores
  memsys : t.memsys = s.memsys
  obj : t.obj = s.obj

/-! ## Management requests (R394-R412) -/

/-- A WRITE that passes the checks of R401: it is the next request of its MANAGEMENT stream, which has a seat, the object is one
that the seat may write now, and the value is one the object takes. No pair mirrors it, and it is not LC_REQUEST or a semaphore. -/
abbrev WriteReady (s : State) (q : Req) (r : Row) (seat : Nat) : Prop :=
  q.op = 2 ∧ s.takes q 2 = true ∧ q.rsv = 0 ∧ (s.heard q).seatOf q.stream = some seat
    ∧ findRow q.index q.sub = some r ∧ (s.heard q).objReason q.index q.sub = none
    ∧ (s.heard q).writeBarred q r seat = none
    ∧ (s.heard q).inRange r q.index q.sub (definedBits q.index q.sub (leNat q.value)) = true
    ∧ (s.heard q).stateRefused seat q.index q.sub (definedBits q.index q.sub (leNat q.value)) = false
    ∧ ¬(0x7000 ≤ q.index ∧ q.index ≤ 0x70FF) ∧ ¬(q.index = 0x1100 ∧ q.sub = 2)
    ∧ ((s.heard q).paired && mirrored q.index) = false

/-- The value that a write carries, without the object's reserved bits. -/
def written (q : Req) : Nat := definedBits q.index q.sub (leNat q.value)

/-- The answer DONE to a request. -/
def doneAnswer (q : Req) : Answer := { index := q.index, sub := q.sub }

/-- The answers that a stream carries to its host: the bytes it has to send. -/
def outgoing (s : State) (stream : Nat) : List Byte := (s.strm stream).tx.bytes

/-! ## Commands of the engines outside the cores, lists, streams -/

/-- An entry for an engine that passes the dispatch checks: its context may dispatch, its header names the engine, and the
engine's own checks hold. -/
structure EngineReady (s : State) (d : Dispatch) (desc : Desc) (e : Engine) (ok : State → Bool) : Prop where
  may : s.mayDispatch d.ctx = true
  hdr : hdrOk d.hdr e.code = true
  ok : ok (taken s d desc) = true

/-- The state in which an engine's command begins: its list entry taken, the run's costs counted. -/
def engineStart (s : State) (d : Dispatch) (desc : Desc) (e : Engine) : State :=
  let a := taken s d desc
  a.applyEnv d.env [] false (a.engineAsks d.ctx e desc.toNat)

/-- A collective's message has been delivered (R362) once more often than it waits. -/
def Delivered (s : State) (m : CollMsg) : Prop :=
  (s.fab.early.filter fun e => e == m).length < (s.fab.inbox.filter fun e => e.2 == (m.role, m.msg.bytes)).length

/-- The identifiers given to commands and lists so far lie below the next one. -/
def FreshIds (s : State) : Prop :=
  (∀ f ∈ s.sched.flights, f.id < s.sched.nextId) ∧ ∀ l ∈ s.sched.lists, l.id < s.sched.nextId

/-- No location is uncorrectable, none becomes so, and the context has no lost line to report. -/
structure CleanMemory (s : State) (d : Dispatch) : Prop extends Clean s d where
  told : (s.ctx d.ctx).lostPending = false

/-- One completion for each command of a list and each of its members. -/
def refusals (l : CList) (st : Status) : List (Addr × Status) :=
  (List.range l.entries.length).flatMap fun i => finals (l.addrs i) st

/-- The streams stand in canonical form, as a sparse list with the closed stream left out. -/
def StreamsOk (s : State) : Prop := smWf ({} : Strm) s.net.streams = true

/-- A Raorn packet that passes R339: the link is up, the header is well formed, and it belongs to a bound stream. -/
structure PacketHeard (s : State) (k : Packet) : Prop where
  link : s.linked = true
  good : packetBad k = false
  bound : (s.strm k.stream).phase ≠ .closed
  addr : (s.strm k.stream).addr = k.addr
  port : (s.strm k.stream).port = k.port
  served : s.unserved k.stream = false

/-- The message of a host's DATA stream that is taken: in S2, it stands next on a stream of KIND DATA, its body whole where its OP
carries one. -/
structure DataHeard (s : State) (op : Nat) (q : DataReq) (body : Bool) : Prop where
  hears : (s.strm q.stream).hears 3 (dataBytes op q body) = true
  inS2 : s.inS2 = true
  whole : body = true → q.body.length = q.len

/-- The Planer runs no job and none waits. -/
def PlanerIdle (s : State) : Prop := s.plan.job = none ∧ s.plan.queue = []

/-- The state in which the replay of a context begins (R468). -/
def replayStart (s : State) (c : Nat) : State :=
  let es := s.replayEntries c
  let s := { s with sched := { s.sched with replayFound := [] } }
  let groups := s.sched.lists.filter fun l => es.any fun e => e.1 == l.id
  groups.foldl (fun s l => s.putRows l) (s.setSuspect c 2)

/-- The state after the entries of a context's replay. -/
def replayed (s : State) (c : Nat) (envs : List Env) : State := (replayStart s c).replayRun c (s.replayEntries c) envs

/-- The completions of the interrupted commands of a context, with one status. -/
def replayAnswers (s : State) (c : Nat) (st : Status) : List (Addr × Status) :=
  (s.sched.suspects.filter fun x => x.ctx == c).flatMap fun x => finals x.addrs st

/-- What a life-cycle change can never undo: the fuses of R488 only ever blow. -/
structure FusesKept (s t : State) : Prop where
  keyHash : t.sec.keyHash = s.sec.keyHash
  secret : t.sec.secret = s.sec.secret
  floor : s.sec.svnFloor ≤ t.sec.svnFloor
  count : s.sec.lcCount ≤ 64 → s.sec.lcCount ≤ t.sec.lcCount ∧ t.sec.lcCount ≤ 64
  decom : s.sec.decom = true → t.sec.decom = true

end Sys2Proof
end

