-- ==== Sys2Proof/WellFormed.lean ====
section
/-! DEFINITION. Which commands are well formed: every operand within the width and the range that the spec's formats and
tables give it. -/

namespace Sys2Proof

/-- A contested grant (R91, R92, R226, R244): a unit that the resource has, two different requesters or more, each with its
class. -/
def Contest.ok (c : Contest) : Bool :=
  let (units, who) := match c.res with
    | .matrix | .bank | .vector | .scalar => (80000, 8)
    | .pool => (32000, 80)
    | .tracker => (8, 64)
    | .squeezer | .expander => (1, 64)
    | .media => (4, 128)
    | .dict => (4, 64)
  decide (c.unit < units) && decide (2 ≤ c.reqs.length) && c.reqs.all (fun r => decide (r.1 < who) && decide (r.2 < 4))
    && decide (c.reqs.map (·.1)).Nodup

/-- The environment of a run names global cores (R75), contests that can arise, and lines of the linear space. -/
def Env.ok (e : Env) : Bool :=
  (e.illegal ++ e.hang).all (fun c => decide (c < 80000)) && e.contests.all Contest.ok
    && e.bankHolds.all (fun h => decide (h.core < 80000)) && (e.newCacheUe ++ e.prefetched).all fun a => decide (a < 549487378432)

/-- A row of HBM (R231). -/
def HbmRow.ok (r : HbmRow) : Bool :=
  decide (r.stack < 8) && decide (r.pc < 32) && decide (r.bank < 64) && decide (r.row < 32768)

/-- A dispatched entry (R103, R314, R315): context, stream, list tag, entry index and header within their fields. -/
def Dispatch.ok (d : Dispatch) : Bool :=
  decide (d.ctx < 64) && decide (d.stream < 16384) && decide (d.listTag < 2 ^ 32) && decide (d.entry < 4096)
    && decide (d.hdr < 2 ^ 64) && d.env.ok

/-- A command list (R314): a header of 128 bits, ENTRY_COUNT entries with headers of 64, ROW_BYTES of row payload. -/
def ListReq.ok (q : ListReq) : Bool :=
  decide (q.stream < 16384) && decide (q.hdr < 2 ^ 128) && q.entries.length == q.hdr / 2 ^ 48 % 2 ^ 16
    && q.row.length == q.hdr / 2 ^ 112 && q.entries.all fun e => decide (e.1 < 2 ^ 64)

/-- A management request (R395): its header fields within their widths. -/
def Req.ok (q : Req) : Bool :=
  decide (q.stream < 16384) && decide (q.tag < 2 ^ 32) && decide (q.index < 2 ^ 16) && decide (q.sub < 2 ^ 8)
    && decide (q.op < 2 ^ 8) && decide (q.length < 2 ^ 32) && decide (q.rsv < 2 ^ 32) && q.rivals.all fun r => decide (r < 16384)

/-- A Raorn packet (R334, R338): its header fields within their widths, at most 8,192 payload bytes. -/
def Packet.ok (k : Packet) : Bool :=
  decide (k.addr < 2 ^ 128) && decide (k.port < 2 ^ 16) && decide (k.version < 16) && decide (k.type < 16) && decide (k.flags < 2 ^ 8)
    && decide (k.stream < 16384) && decide (k.seq < 2 ^ 32) && decide (k.ack < 2 ^ 32) && decide (k.sack < 2 ^ 64)
    && decide (k.window < 2 ^ 16) && decide (k.len < 2 ^ 16) && decide (k.payload.length ≤ 8192)

/-- A DATA message (R351): its header fields within their widths. -/
def DataReq.ok (q : DataReq) : Bool :=
  decide (q.stream < 16384) && decide (q.ctx < 2 ^ 8) && decide (q.model < 2 ^ 8) && decide (q.reason < 2 ^ 8)
    && decide (q.tag < 2 ^ 32) && decide (q.off < 2 ^ 64) && decide (q.len < 2 ^ 64)

/-- A training's result (R20, R24): an existing link, 66 lanes in a direction. -/
def LinkRun.ok (r : LinkRun) : Bool :=
  decide (r.link < 19) && r.link != 8 && decide (r.failedAB < 2 ^ 66) && decide (r.failedBA < 2 ^ 66)

/-- A refill (R388): at most 64 contexts, with their own numbers. -/
def Refill.ok (r : Refill) : Bool := r.ctxs.all fun c => decide (c.ctx < 64)

/-- Is a command well formed? -/
def wellFormed : Instr → Bool
  | .matmul d => d.ok
  | .conv d => d.ok
  | .convGrouped d => d.ok
  | .maxPooling d => d.ok
  | .averagePooling d => d.ok
  | .sumPooling d => d.ok
  | .convert d => d.ok
  | .add d => d.ok
  | .sub d => d.ok
  | .mul d => d.ok
  | .fma d => d.ok
  | .max d => d.ok
  | .min d => d.ok
  | .relu d => d.ok
  | .leakyRelu d => d.ok
  | .sigmoid d => d.ok
  | .tanh d => d.ok
  | .softplus d => d.ok
  | .exp d => d.ok
  | .log d => d.ok
  | .recip d => d.ok
  | .rsqrt d => d.ok
  | .gelu d => d.ok
  | .silu d => d.ok
  | .reduceSum d => d.ok
  | .reduceMax d => d.ok
  | .softmax d => d.ok
  | .reluBwd d => d.ok
  | .leakyReluBwd d => d.ok
  | .sigmoidBwd d => d.ok
  | .tanhBwd d => d.ok
  | .softplusBwd d => d.ok
  | .expBwd d => d.ok
  | .softmaxBwd d => d.ok
  | .geluBwd d => d.ok
  | .siluBwd d => d.ok
  | .dropout d => d.ok
  | .maskRows d => d.ok
  | .copy d => d.ok
  | .fill d => d.ok
  | .squeeze d => d.ok
  | .expand d => d.ok
  | .barrier d => d.ok
  | .loadreg d => d.ok
  | .allReduce d => d.ok
  | .broadcast d => d.ok
  | .allGather d => d.ok
  | .pack d => d.ok
  | .moment2Update d => d.ok
  | .orthoUpdate d => d.ok
  | .tableLoad d => d.ok
  | .tableRetire d => d.ok
  | .batch d => d.ok
  | .dictLoad d => d.ok
  | .dictUnload d => d.ok
  | .detok d => d.ok
  | .read q => q.ok
  | .write q => q.ok
  | .describe q => q.ok
  | .describeNext q => q.ok
  | .bind q => q.ok
  | .unbind q => q.ok
  | .semAcquire q => q.ok
  | .semRelease q => q.ok
  | .retrainRequest q => q.ok
  | .openSiteBind q => q.ok
  | .driftedSlabs q => q.ok
  | .load q => q.ok
  | .retire q => q.ok
  | .intakeConfig q => q.ok
  | .portRetrain q => q.ok
  | .portRole q => q.ok
  | .topology q => q.ok
  | .form q => q.ok
  | .donate q => q.ok
  | .receive q => q.ok
  | .leave q => q.ok
  | .tgenStart q => q.ok
  | .tgenStop q => q.ok
  | .deepIdleRequest q => q.ok
  | .deepIdleExit q => q.ok
  | .keepWarm q => q.ok
  | .pause q => q.ok
  | .run q => q.ok
  | .resetRequest q => q.ok
  | .ctxHold q => q.ok
  | .begin q => q.ok
  | .imageWindow q => q.ok
  | .imageOffset q => q.ok
  | .commit q => q.ok
  | .abort q => q.ok
  | .svnCommit q => q.ok
  | .lcRequest q => q.ok
  | .attestNonce q => q.ok
  | .commandList q => q.ok
  | .admitList m => decide (m < 255)
  | .admitLimit _ => true
  | .mergeWindow _ => true
  | .loadDecision => true
  | .loadFailed m => decide (m < 255)
  | .modelStopComplete m _ repairs _ => decide (m < 255) && repairs.all HbmRow.ok
  | .timeout _ _ _ => true
  | .abortLimit _ half => decide (half < 2)
  | .data k => k.ok
  | .ack k => k.ok
  | .open k => k.ok
  | .close k => k.ok
  | .reset k => k.ok
  | .streamStopComplete n => decide (n < 16384)
  | .raornAckTimer n => decide (n < 16384)
  | .rtoExpiry n => decide (n < 16384)
  | .transmit => true
  | .dataWrite q => q.ok
  | .dataRead q => q.ok
  | .image q => q.ok
  | .deviceOpFromHost op q => (op == 2 || op == 4 || op == 5 || op == 7) && q.ok
  | .reservedDataOp op q => (op == 0 || (decide (8 ≤ op) && decide (op < 256))) && q.ok
  | .filteredFrame _ => true
  | .neighborSolicitation src mac target => decide (src < 2 ^ 128) && decide (mac < 2 ^ 48) && decide (target < 2 ^ 128)
  | .neighborAdvertisement target mac _ _ => decide (target < 2 ^ 128) && decide (mac < 2 ^ 48)
  | .echoRequest src dst ident seq _ => decide (src < 2 ^ 128) && decide (dst < 2 ^ 128) && decide (ident < 2 ^ 16) && decide (seq < 2 ^ 16)
  | .pfc mask times => decide (mask < 2 ^ 8) && decide (times.length = 8) && times.all (fun t => decide (t < 2 ^ 16))
  | .pfcPauseEnd p => decide (p < 8)
  | .pfcRefresh => true
  | .linkDown => true
  | .linkUp => true
  | .portFallback => true
  | .idleLoss seat => decide (seat < 2)
  | .openSiteData hdr _ => decide (hdr < 2 ^ 64)
  | .openSiteEndOfSample hdr => decide (hdr < 2 ^ 64)
  | .openSiteCredit hdr => decide (hdr < 2 ^ 64)
  | .openSiteLinkDown => true
  | .tenonFlit h _ _ _ _ => decide (h.link < 19) && decide (h.src < 7) && decide (h.dst < 7)
  | .retryRateExceeded link => decide (link < 19)
  | .tenonTrainingDone r _ => r.ok
  | .dvFlit p bs => decide (p < 6) && decide (bs.length = 256)
  | .dvAckTimer p => decide (p < 6)
  | .dvReplayTimer p => decide (p < 6)
  | .dvReplayRateExceeded p => decide (p < 6)
  | .portTrainingDone p _ _ => decide (p < 6)
  | .portRetry p => decide (p < 6)
  | .portStopComplete p => decide (p < 6)
  | .heartbeatSend => true
  | .heartbeat _ => true
  | .heartbeatAck _ => true
  | .failover => true
  | .pairHello serial _ _ _ => decide (serial < 2 ^ 64)
  | .pairHelloTimeout => true
  | .pairLeave => true
  | .pairStopComplete => true
  | .mirrorWrite index sub _ => decide (index < 2 ^ 16) && decide (sub < 2 ^ 8)
  | .mirrorApply _ index sub _ => decide (index < 2 ^ 16) && decide (sub < 2 ^ 8)
  | .batchClaim _ => true
  | .jobStart _ => true
  | .agree _ _ => true
  | .recheck _ _ _ _ => true
  | .katResult _ _ => true
  | .slabXfer _ sweep _ => decide (sweep < 2)
  | .driftFetch c _ _ sweep => decide (c < 64) && decide (sweep < 2)
  | .collHead role _ _ => decide (role < 6)
  | .collExp role _ _ _ _ _ => decide (role < 6)
  | .collSum role _ _ _ _ _ => decide (role < 6)
  | .collData role _ _ _ _ _ => decide (role < 6)
  | .collAbort role _ _ => decide (role < 6)
  | .donorQuiesced => true
  | .refillBegin r => r.ok
  | .refillData c _ _ crc => decide (c < 64) && decide (crc < 2 ^ 64)
  | .refillEnd crc => decide (crc < 2 ^ 64)
  | .slabStaged h _ _ => decide (h < 2)
  | .katDone h _ => decide (h < 2)
  | .journalDrain => true
  | .planerResume => true
  | .tableLoadSlotTaken => true
  | .engineGrant _ => true
  | .sample k hdr _ => decide (k < 128) && decide (hdr < 2 ^ 64)
  | .sampleResolved k _ => decide (k < 128)
  | .timeBudget k _ => decide (k < 128)
  | .roiReread k _ => decide (k < 128)
  | .intakeStopComplete k => decide (k < 128)
  | .hbmRefresh h c => decide (h < 8) && decide (c.pc < 32)
  | .hbmTempSample md temps => decide (md < 2) && decide (temps.length = 4)
  | .prefetch ctx _ _ => decide (ctx < 64)
  | .tgenRunDone sub _ _ _ _ _ repairs _ => decide (1 ≤ sub) && decide (sub ≤ 128) && repairs.all HbmRow.ok
  | .wipeDone _ repairs bad => repairs.all HbmRow.ok && bad.all (fun h => decide (h < 8))
  | .hbmScrub _ err _ _ => decide (err < 3)
  | .sramScrub _ err _ => decide (err < 3)
  | .tenonEq link => decide (link < 19)
  | .hbmRetrain sub _ => decide (1 ≤ sub) && decide (sub ≤ 128)
  | .hbmRetrainWaitExpiry sub => decide (1 ≤ sub) && decide (sub ≤ 128)
  | .opticalTune e _ _ => decide (e < 7)
  | .avs targets => targets.all (fun t => decide (t.1 < 7))
  | .avsStep rail => decide (rail < 7)
  | .avsNack rail => decide (rail < 7)
  | .nvsWear _ _ => true
  | .telemetryPeriod _ => true
  | .digestWalk ctx _ _ sweep _ => decide (ctx < 64) && decide (sweep < 2)
  | .pauseLimit task => decide (task < 9)
  | .groupIdleDelay g => decide (g < 40)
  | .dieIdleDelay d => decide (d < 4)
  | .clockStartComplete pll i => decide (i < if pll then 7 else 40)
  | .clockStopComplete pll i => decide (i < if pll then 7 else 40)
  | .clockLoss u => decide (u < 14)
  | .dieSilence u => decide (u < 14)
  | .crashDump type _ _ => decide (1 ≤ type) && decide (type ≤ 6)
  | .rejoin type _ _ _ runs _ repairs => decide (1 ≤ type) && decide (type ≤ 5) && runs.all LinkRun.ok && repairs.all HbmRow.ok
  | .iodLoss => true
  | .suspectReplay envs => envs.all Env.ok
  | .signingComplete seat => decide (seat < 2)
  | .imageChecksEnd _ => true
  | .suppliesGood rails _ => decide (rails < 2 ^ 11)
  | .resetN => true
  | .s1Entry => true
  | .hbmTrainingDone trained => decide (trained.length = 8)
  | .s1End failed => failed.all (fun u => decide (u < 14))
  | .s1Timeout => true
  | .switchover => true
  | .vaoMainRestored => true
  | .mainRailOutOfRange rail => decide (rail < 9)
  | .writeBackComplete => true
  | .returnFromRetention => true
  | .refClockEvent state => decide (state < 3)
  | .dieTempSample temps => decide (temps.length = 7)
  | .thermtripRelease => true
  | .tripRailsKept => true
  | .pmbAlert rail _ => decide (rail < 7)
  | .powerWindow _ => true
  | .laserLow e => decide (e < 7)
  | .slabHome h => decide (h < 2)
  | .powerLoss => true
  | .laserRestored e => decide (e < 7)
  | .deepIdleExitComplete => true
  | .pllLockTimeout u => decide (u < 7)
  | .dieSelfTestDone u _ => decide (u < 7)
  | .opticalEnginesTuned bad => bad.all (fun e => decide (e < 7))
  | .openSiteDiscovery _ _ _ _ ident => decide (ident < 2 ^ 128)
  | .testAccessPort code => decide (code < 2 ^ 8)

end Sys2Proof
end

