-- ==== Sys2Proof/Certificates/Slice0/Obligations.lean ====
section
/-! DEFINITION. The statements about the block, for the provers. `Completes i s P` says that `exec i s` answers a next state
of which `P` holds. -/

open Sys2Proof Sys2Proof.Machine

/-! ## The block -/

/-- A step runs the command at the front of the queue on the state with the queue's rest. -/
def Obligations.StepRunsFrontCommand : Prop :=
  ∀ (s : State) (c : Instr) (rest : List Instr), step { s with pending := c :: rest } = exec c { s with pending := rest }

/-- On an empty queue a Pavane cycle passes: time rises by one and the contests of the cycle are over. Where no transition of the
life cycle goes on and no entry that spells no command stands next, nothing else changes but where the oldest buffered entry of the
fault log stands (the model's choice, log 2). An entry that spells no command completes with DESCRIPTOR_INVALID, and a transition
blows its fuses and resets the package. -/
def Obligations.IdleStepPassesOneCycle : Prop :=
  ∀ s : State, Idle s →
    (∃ t, step s = .next t ∧ t.time = s.time + 1 ∧ t.contests = []
      ∧ (s.sec.blow = none → (∀ l ∈ s.sched.lists, l.phase = .dispatching → ∀ e, l.entries[l.next]? = some e →
          entryKnown e.1 e.2.toNat = true) →
        (s.log.ring.length < 262144 → t.logHeld = s.logHeld) ∧ t.log.buf = s.log.buf.tail
          ∧ { t with time := s.time, contests := s.contests, log := s.log } = s))
    ∧ (∀ (l : CList) (e : Nat × Desc) (c : Nat), Canonical s → CountersBounded s → s.sec.blow = none → s.sched.lists = [l] →
      l.phase = .dispatching → l.next + 1 = l.entries.length → l.entries[l.next]? = some e → entryKnown e.1 e.2.toNat = false →
      (s.sched.ctxs.findIdx? fun x => x.model == l.model && x.phase == .ready) = some c → s.mayDispatch c = true →
        ∃ t, step s = .next t ∧ Sends s t (finals (l.addrs l.next) .descriptorInvalid)
          ∧ Rises s t 0x8032 6 (if fld e.1 1 0 = 0 then 1 else 0))
    ∧ (∀ goal, s.sec.blow = some goal → (s.pkg.resets.any fun r => r.domType == 6) = false →
      ∃ t, step s = .next t ∧ t.sec.blow = none ∧ t.sec.lcCount = min 64 (s.sec.lcCount + 1) ∧ (goal = 4 → t.sec.decom = true)
        ∧ (t.pkg.resets.map fun r => (r.domType, r.domIndex, r.cause)) = [(6, 0, 5)])

/-- At reset the state is canonical, no command waits, and every counter and every object reads zero or its default. -/
def Obligations.ResetIsCanonicalAndIdle : Prop :=
  Canonical State.reset ∧ Idle State.reset ∧ (∀ i k, State.reset.ctrAt i k = 0) ∧ (∀ i k, State.reset.get i k = dfltOf i k)

/-- Every step keeps memory, uncorrectable units, objects and counters in their canonical form. -/
def Obligations.EveryStepKeepsCanonicalForm : Prop :=
  ∀ s t : State, Canonical s → step s = .next t → Canonical t

/-- No step stops the block: every command of the table has an effect in every state. -/
def Obligations.EveryStepGoesOn : Prop := ∀ s : State, StepsOn s

/-- No command changes what waits behind it. -/
def Obligations.CommandsLeaveTheQueueAlone : Prop :=
  ∀ (c : Instr) (s t : State), exec c s = .next t → t.pending = s.pending

/-! ## Core commands (chapters 03 to 05) -/

/-- MATMUL, CONV, CONV_GROUPED and the poolings complete. -/
def Obligations.MatrixAndWindowCommandsComplete : Prop :=
  ∀ (s : State) (d : Dispatch), d.env.Healthy →
    CoreCompletes (.matmul d) s d (force d.desc 7 0 1) ∧ CoreCompletes (.conv d) s d (force d.desc 7 0 2)
    ∧ CoreCompletes (.convGrouped d) s d (force d.desc 7 0 3)
    ∧ CoreCompletes (.maxPooling d) s d (force (force d.desc 7 0 4) 345 344 0)
    ∧ CoreCompletes (.averagePooling d) s d (force (force d.desc 7 0 4) 345 344 1)
    ∧ CoreCompletes (.sumPooling d) s d (force (force d.desc 7 0 4) 345 344 2)

/-- The forward VECTOR operations complete. -/
def Obligations.VectorCommandsComplete : Prop :=
  ∀ (s : State) (d : Dispatch), d.env.Healthy →
    let v (op : Nat) : Desc := force (force d.desc 7 0 5) 102 96 op
    CoreCompletes (.convert d) s d (v 0x00) ∧ CoreCompletes (.add d) s d (v 0x01) ∧ CoreCompletes (.sub d) s d (v 0x02)
    ∧ CoreCompletes (.mul d) s d (v 0x03) ∧ CoreCompletes (.fma d) s d (v 0x04) ∧ CoreCompletes (.max d) s d (v 0x05)
    ∧ CoreCompletes (.min d) s d (v 0x06) ∧ CoreCompletes (.relu d) s d (v 0x07) ∧ CoreCompletes (.leakyRelu d) s d (v 0x08)
    ∧ CoreCompletes (.sigmoid d) s d (v 0x09) ∧ CoreCompletes (.tanh d) s d (v 0x0A)
    ∧ CoreCompletes (.softplus d) s d (v 0x0B) ∧ CoreCompletes (.exp d) s d (v 0x0C) ∧ CoreCompletes (.log d) s d (v 0x0D)
    ∧ CoreCompletes (.recip d) s d (v 0x0E) ∧ CoreCompletes (.rsqrt d) s d (v 0x0F) ∧ CoreCompletes (.gelu d) s d (v 0x10)
    ∧ CoreCompletes (.silu d) s d (v 0x11) ∧ CoreCompletes (.reduceSum d) s d (v 0x18)
    ∧ CoreCompletes (.reduceMax d) s d (v 0x19) ∧ CoreCompletes (.softmax d) s d (v 0x1A)

/-- The backward VECTOR operations, DROPOUT and MASK_ROWS complete. -/
def Obligations.BackwardCommandsComplete : Prop :=
  ∀ (s : State) (d : Dispatch), d.env.Healthy →
    let v (op : Nat) : Desc := force (force d.desc 7 0 5) 102 96 op
    CoreCompletes (.reluBwd d) s d (v 0x20) ∧ CoreCompletes (.leakyReluBwd d) s d (v 0x21)
    ∧ CoreCompletes (.sigmoidBwd d) s d (v 0x22) ∧ CoreCompletes (.tanhBwd d) s d (v 0x23)
    ∧ CoreCompletes (.softplusBwd d) s d (v 0x24) ∧ CoreCompletes (.expBwd d) s d (v 0x25)
    ∧ CoreCompletes (.softmaxBwd d) s d (v 0x26) ∧ CoreCompletes (.geluBwd d) s d (v 0x27)
    ∧ CoreCompletes (.siluBwd d) s d (v 0x28) ∧ CoreCompletes (.dropout d) s d (v 0x29)
    ∧ CoreCompletes (.maskRows d) s d (v 0x2A)

/-- COPY, FILL and LOADREG complete. -/
def Obligations.MoveAndLoadregComplete : Prop :=
  ∀ (s : State) (d : Dispatch), d.env.Healthy →
    CoreCompletes (.copy d) s d (force (force d.desc 7 0 6) 99 96 0)
    ∧ CoreCompletes (.fill d) s d (force (force d.desc 7 0 6) 99 96 1)
    ∧ CoreCompletes (.loadreg d) s d (force d.desc 7 0 8)

/-- The frame of the matrix unit and the window path. -/
def Obligations.MatrixAndWindowFrame : Prop :=
  ∀ (s : State) (d : Dispatch), d.env.Healthy →
    CoreFrame (.matmul d) s d (force d.desc 7 0 1) ∧ CoreFrame (.conv d) s d (force d.desc 7 0 2)
    ∧ CoreFrame (.convGrouped d) s d (force d.desc 7 0 3)
    ∧ CoreFrame (.maxPooling d) s d (force (force d.desc 7 0 4) 345 344 0)
    ∧ CoreFrame (.averagePooling d) s d (force (force d.desc 7 0 4) 345 344 1)
    ∧ CoreFrame (.sumPooling d) s d (force (force d.desc 7 0 4) 345 344 2)

/-- The frame of the VECTOR operations, forward and backward. -/
def Obligations.VectorFrame : Prop :=
  ∀ (s : State) (d : Dispatch), d.env.Healthy →
    ∀ p ∈ ([(.convert d, 0x00), (.add d, 0x01), (.sub d, 0x02), (.mul d, 0x03), (.fma d, 0x04), (.max d, 0x05),
        (.min d, 0x06), (.relu d, 0x07), (.leakyRelu d, 0x08), (.sigmoid d, 0x09), (.tanh d, 0x0A), (.softplus d, 0x0B),
        (.exp d, 0x0C), (.log d, 0x0D), (.recip d, 0x0E), (.rsqrt d, 0x0F), (.gelu d, 0x10), (.silu d, 0x11),
        (.reduceSum d, 0x18), (.reduceMax d, 0x19), (.softmax d, 0x1A), (.reluBwd d, 0x20), (.leakyReluBwd d, 0x21),
        (.sigmoidBwd d, 0x22), (.tanhBwd d, 0x23), (.softplusBwd d, 0x24), (.expBwd d, 0x25), (.softmaxBwd d, 0x26),
        (.geluBwd d, 0x27), (.siluBwd d, 0x28), (.dropout d, 0x29), (.maskRows d, 0x2A)] : List (Instr × Nat)),
      CoreFrame p.1 s d (force (force d.desc 7 0 5) 102 96 p.2)

/-- The frame of COPY, FILL and LOADREG; LOADREG stores to no byte of memory. -/
def Obligations.MoveAndLoadregFrame : Prop :=
  ∀ (s : State) (d : Dispatch), d.env.Healthy →
    CoreFrame (.copy d) s d (force (force d.desc 7 0 6) 99 96 0)
    ∧ CoreFrame (.fill d) s d (force (force d.desc 7 0 6) 99 96 1)
    ∧ CoreFrame (.loadreg d) s d (force d.desc 7 0 8) ∧ coreStores s d (force d.desc 7 0 8) = []

/-- LOADREG loads its register with the 64-bit word at its address, as the core finds it when the command begins, on the core of a
set of one, and no other register. Where nothing is uncorrectable that is the word that memory holds. -/
def Obligations.LoadregLoadsTheWord : Prop :=
  ∀ (s : State) (d : Dispatch) (core : Nat), d.env.Healthy → smWf 0 s.cores.regs = true →
    let desc := force d.desc 7 0 8
    let key := slotKey core (Rec.slot (s.ctx d.ctx).record) * 32 + Cmd.ldst desc.toNat
    let addr (i : Nat) : Nat := flat (s.view d.ctx core 0) (Cmd.lspace desc.toNat) (Cmd.laddr desc.toNat + i)
    let u := coreBegun s d desc
    CoreReady s d desc → ¬ FrozenEntry s d desc → s.coresOf d.ctx desc = [core] →
      Completes (.loadreg d) s fun t =>
        smGet 0 t.cores.regs key = leNat ((List.range 8).map fun i => readByte u.mem u.ueNow (addr i))
          ∧ (Canonical s → Clean s d → smGet 0 t.cores.regs key = leNat ((List.range 8).map fun i => memRd s.mem (addr i)))
          ∧ ∀ j, j ≠ key → smGet 0 t.cores.regs j = smGet 0 s.cores.regs j

/-- FILL of a one-byte format that carries no block scales leaves every element of C at the one converted value, on the core
of a set of one. -/
def Obligations.FillWritesEveryElement : Prop :=
  ∀ (s : State) (d : Dispatch) (core : Nat), d.env.Healthy → Clean s d → Canonical s →
    let desc := force (force d.desc 7 0 6) 99 96 1
    let v := s.view d.ctx core 0
    let c := openTensor v ⟨s.mem, s.ctr⟩ (Cmd.tc desc.toNat)
    CoreReady s d desc → ¬ FrozenEntry s d desc → s.coresOf d.ctx desc = [core] →
    c.fmt.bytes = 1 → c.fmt ≠ .fp4 → Ten.scaled c.d = false →
      Completes (.fill d) s fun t => ∀ l, l < volume c.exts →
        ∀ a ∈ elemAddrs v c (unlinear c.exts l),
          memRd t.mem a = BitVec.ofNat 8 (convertOut c.fmt (rndOf v (Cmd.mround desc.toNat) (Cmd.layer desc.toNat) 0)
            (Sv.of (f32 (Cmd.scalar desc.toNat)))).1.bits

/-- A weight-gradient command of a frozen layer completes with DONE on no core, and is counted, whatever its cores are at. -/
def Obligations.FrozenLayerSkipsTheCommand : Prop :=
  ∀ (s : State) (d : Dispatch), Canonical s → CountersBounded s →
    ∀ p ∈ ([(.matmul d, force d.desc 7 0 1), (.conv d, force d.desc 7 0 2), (.convGrouped d, force d.desc 7 0 3),
        (.reduceSum d, force (force d.desc 7 0 5) 102 96 0x18), (.copy d, force (force d.desc 7 0 6) 99 96 0),
        (.fill d, force (force d.desc 7 0 6) 99 96 1), (.loadreg d, force d.desc 7 0 8),
        (.barrier d, force d.desc 7 0 7)] : List (Instr × Desc)),
      Checked s d p.2 → FrozenEntry s d p.2 → Completes p.1 s fun t =>
        Sends (taken s d p.2) t (finals (addrsOf s d p.2) .done) ∧ Rises s t 0x8033 1 1 ∧ t.cores = s.cores
          ∧ (Unmerged s d p.2 → CoresUntouched s t)

/-- A command that fails a dispatch check completes with DESCRIPTOR_INVALID on no core, and is counted. -/
def Obligations.FailedDispatchCheckRunsOnNoCore : Prop :=
  ∀ (s : State) (d : Dispatch), Canonical s → CountersBounded s →
    ∀ p ∈ ([(.matmul d, force d.desc 7 0 1), (.conv d, force d.desc 7 0 2), (.convGrouped d, force d.desc 7 0 3),
        (.add d, force (force d.desc 7 0 5) 102 96 1), (.reluBwd d, force (force d.desc 7 0 5) 102 96 0x20),
        (.copy d, force (force d.desc 7 0 6) 99 96 0), (.fill d, force (force d.desc 7 0 6) 99 96 1),
        (.loadreg d, force d.desc 7 0 8), (.barrier d, force d.desc 7 0 7)] : List (Instr × Desc)),
      s.mayDispatch d.ctx = true →
      (hdrOk d.hdr 0 && descOk p.2.toNat ((taken s d p.2).ctx d.ctx).tensors
        && (taken s d p.2).setOk d.ctx (s.coresOf d.ctx p.2)) = false →
        Completes p.1 s fun t => CoresUntouched s t
          ∧ Sends (taken s d p.2) t (finals (addrsOf s d p.2) .descriptorInvalid) ∧ Rises (taken s d p.2) t 0x8032 6 1

/-- A BARRIER whose set holds every participant, on a channel that nobody has reached, releases at once: it completes with
DONE, the channel is empty again, the release is counted, and a reduction's result stands in DST_REG of every core. -/
def Obligations.BarrierOfAllParticipantsReleases : Prop :=
  ∀ (s : State) (d : Dispatch), d.env.Healthy → Canonical s → CountersBounded s → smWf 0 s.cores.regs = true →
    smWf ([] : List Arrival) s.cores.barriers = true → FreshIds s →
    let desc := force d.desc 7 0 7
    let cores := s.coresOf d.ctx desc
    let slot := Rec.slot (s.ctx d.ctx).record
    let red := Cmd.redop desc.toNat
    CoreReady s d desc → ¬ FrozenEntry s d desc → s.arrivals d.ctx = [] →
    (∀ k ∈ participants (Rec.footprint (s.ctx d.ctx).record), k ∈ cores) →
      Completes (.barrier d) s fun t =>
        Sends (taken s d desc) t (finals (addrsOf s d desc) .done) ∧ Rises s t 0x8031 7 1 ∧ t.arrivals d.ctx = []
        ∧ (Unmerged s d desc → t.mem = s.mem)
        ∧ (red = 0 → t.cores.regs = s.cores.regs)
        ∧ (red ≠ 0 → ∀ k ∈ cores, smGet 0 t.cores.regs (slotKey k slot * 32 + Cmd.bdst desc.toNat)
            = (reduce red (cores.zipIdx.map fun p => scalarReg (s.view d.ctx p.1 p.2) (Cmd.srcReg desc.toNat))).1)

/-- R16: of the conditions that apply to a final completion, it carries the one that stands first in the rule's order, and
DONE where none applies. -/
def Obligations.FinalCompletionFollowsTheOrder : Prop :=
  let order : List Status := [.dieLost, .memUncorrectable, .illegalInstruction, .descriptorInvalid, .timeout, .refusedCapacity,
    .refusedNotResident, .diverged, .driftRepaired, .doneWithHoles, .expanderStall, .done]
  firstStatus [] = .done ∧ ∀ l : List Status, l ≠ [] → (∀ c ∈ l, c ∈ order) →
    firstStatus l ∈ l ∧ ∀ c ∈ l, order.idxOf (firstStatus l) ≤ order.idxOf c

/-- The anchored sum does not depend on the order of its addends. -/
def Obligations.AnchoredSumIgnoresOrder : Prop :=
  ∀ l m : List Addend, l.Perm m → anchoredSum l = anchoredSum m

/-- An integer reduction over a barrier does not depend on the order of its operands, and neither do AND and OR. -/
def Obligations.IntegerReductionIgnoresOrder : Prop :=
  ∀ (red : Nat) (l m : List Nat), 1 ≤ red → red ≤ 5 → l.Perm m → reduce red l = reduce red m

/-! ## Management requests (chapter 13) -/

/-- READ, DESCRIBE and DESCRIBE_NEXT that stand next on a MANAGEMENT stream are answered, change no object and no memory, and take the
request's bytes from the stream. One whose OP is reserved is refused with 0x0A (R401); one that has to leave its cycle to another
request waits (R398). -/
def Obligations.ReadsAreAnswered : Prop :=
  ∀ (s : State) (q : Req),
    (∀ p ∈ ([(.read q, 1, (s.heard q).mgmtRead q), (.describe q, 3, (s.heard q).mgmtDescribe q),
        (.describeNext q, 4, (s.heard q).mgmtDescribeNext q)] : List (Instr × Nat × Answer)),
      (q.op = p.2.1 → s.takes q p.2.1 = true → Completes p.1 s fun t =>
        t = (s.heard q).answer q.stream p.2.1 q.tag p.2.2 ∧ t.obj = s.obj ∧ t.mem = s.mem ∧ t.cores = s.cores ∧ t.sched = s.sched)
      ∧ (opReserved q.op = true → s.takes q p.2.1 = true → Completes p.1 s fun t =>
        t = (s.heard q).answer q.stream q.op q.tag (refusal q 0x0A))
      ∧ (s.onTurn q = false → Completes p.1 s fun t => t = s))

/-- A READ of an implemented object that is served answers DONE with the object's bytes in its type's size. -/
def Obligations.ReadReturnsTheObject : Prop :=
  ∀ (s : State) (q : Req) (r : Row), q.rsv = 0 → q.length = 0 → findRow q.index q.sub = some r → s.serves q.index = true →
    s.mgmtRead q = { value := leBytes r.ty.size (s.readObj q.stream q.index q.sub), index := q.index, sub := q.sub }

/-- The checks of R401 for READ in their order: framing (0x0A), an index not implemented (0x01), a subindex not implemented
(0x02), an object not served in the stage (0x09). -/
def Obligations.ReadRefusalsInOrder : Prop :=
  ∀ (s : State) (q : Req),
    ((q.rsv ≠ 0 ∨ q.length ≠ 0) → s.mgmtRead q = refusal q 0x0A)
    ∧ (q.rsv = 0 → q.length = 0 → indexKnown q.index = false → s.mgmtRead q = refusal q 1)
    ∧ (q.rsv = 0 → q.length = 0 → indexKnown q.index = true → findRow q.index q.sub = none → s.mgmtRead q = refusal q 2)
    ∧ (q.rsv = 0 → q.length = 0 → indexKnown q.index = true → (findRow q.index q.sub).isSome = true →
        s.serves q.index = false → s.mgmtRead q = refusal q 9)

/-- DESCRIBE_NEXT (R536): the object after a position is implemented, lies after it, and no implemented object lies between;
a request is answered with it where it is served, refused with 0x09 and the object found where it is not, and refused with
0x0C and the object named where none lies after that. -/
def Obligations.DescribeNextFindsTheNextObject : Prop :=
  (∀ key : Nat,
    (∀ n, nextObject key = some n → key < n ∧ (findRow (n / 256) (n % 256)).isSome = true
      ∧ ∀ m, key < m → m < n → findRow (m / 256) (m % 256) = none)
    ∧ (nextObject key = none → ∀ m, key < m → findRow (m / 256) (m % 256) = none))
  ∧ ∀ (s : State) (q : Req), q.rsv = 0 → q.length = 0 → q.sub < 256 →
    (nextObject (q.index * 256 + q.sub) = none → s.mgmtDescribeNext q = refusal q 0x0C)
    ∧ ∀ n, nextObject (q.index * 256 + q.sub) = some n →
      (s.serves (n / 256) = false → s.mgmtDescribeNext q = refusal { q with index := n / 256, sub := n % 256 } 9)
      ∧ (s.serves (n / 256) = true → ∃ r, findRow (n / 256) (n % 256) = some r
        ∧ s.mgmtDescribeNext q = s.describe r (n / 256) (n % 256))

/-- BIND of a free seat that no rival asks for binds it, UNBIND frees the seat with every semaphore it holds, and SEAT_IDLE_LIMIT
does the same and counts it. -/
def Obligations.SeatsAreBoundAndFreed : Prop :=
  ∀ (s : State) (q : Req), Canonical s → CountersBounded s →
    (∀ want : Nat, want < 2 → q.op = 5 → s.takes q 5 = true → bindFormOk q = true → leAt q.value 0 1 = want →
        (s.heard q).seatOf q.stream = none → q.rivals = [] → s.contests = [] → (s.heard q).seats.length = 2 →
        ((s.heard q).seat want).bound = false →
      Completes (.bind q) s fun t => (t.seat want).bound = true ∧ (t.seat want).stream = q.stream
        ∧ (t.seat want).label = slice q.value 8 16 ∧ (t.seat want).limit = s.get 0x3021 1 ∧ t.obj = s.obj)
    ∧ (∀ k : Nat, k < 2 → q.op = 6 → s.takes q 6 = true → q.rsv = 0 → q.index = 0 → q.sub = 0 → q.length = 0 →
        (s.heard q).seatOf q.stream = some k →
      Completes (.unbind q) s fun t => (t.seat k).bound = false ∧ (∀ n < 256, t.semHolder n ≠ k + 1)
        ∧ (∀ n < 256, s.semHolder n ≠ k + 1 → t.semHolder n = s.semHolder n))
    ∧ (∀ k : Nat, k < 2 → (s.seat k).bound = true → (s.seat k).limit ≠ 0 →
      Completes (.idleLoss k) s fun t => (t.seat k).bound = false ∧ (∀ n < 256, t.semHolder n ≠ k + 1)
        ∧ Rises s t 0x803B 7 1)

/-- A seat acquires a FREE semaphore that no rival asks for, and releases one it holds. -/
def Obligations.SemaphoresAreAcquiredAndReleased : Prop :=
  ∀ (s : State) (q : Req) (n seat : Nat), Canonical s → n < 256 → q.index = 0x7000 + n → q.op = 2 → q.rsv = 0 →
    s.seatOf q.stream = some seat → seat < 2 → s.serves q.index = true →
    (s.takes (toSub q q.index 1 1) 2 = true → s.semHolder n = 0 → q.rivals = [] → s.contests = [] →
      Completes (.semAcquire q) s fun t => t.semHolder n = seat + 1 ∧ ∀ m < 256, m ≠ n → t.semHolder m = s.semHolder m)
    ∧ (s.takes (toSub q q.index 1 0) 2 = true → s.semHolder n = seat + 1 →
      Completes (.semRelease q) s fun t => t.semHolder n = 0 ∧ ∀ m < 256, m ≠ n → t.semHolder m = s.semHolder m)

/-- A semaphore that the other seat holds is not lost to a request: it stays held, whatever is asked. -/
def Obligations.HeldSemaphoreStaysHeld : Prop :=
  ∀ (s : State) (q : Req) (n seat other : Nat), Canonical s → n < 256 → q.index = 0x7000 + n →
    s.seatOf q.stream = some seat → s.semHolder n = other + 1 → other ≠ seat →
    (s.contests.find? fun c => c.1 == n && c.2.1 == q.stream) = none →
      (Completes (.semAcquire q) s fun t => t.semHolder n = other + 1)
      ∧ Completes (.semRelease q) s fun t => t.semHolder n = other + 1

/-- A write that passes the checks of R401 has its object's effect and is answered DONE. One line for each command that
writes one object, and WRITE itself. -/
def Obligations.WritesHaveTheirEffect : Prop :=
  ∀ (s : State) (q : Req) (r : Row) (seat : Nat),
    let effect (i : Instr) (w : Req) (f : State → State) : Prop := WriteReady s w r seat →
      Completes i s fun t => t = (f (s.heard w)).answer q.stream 2 q.tag (doneAnswer w)
    effect (.write q) q (fun h => h.writeEffect q.index q.sub (written q) (leBytes r.ty.size (written q)))
    ∧ (∀ n, 0x1040 ≤ n → n ≤ 0x1052 → q.index = n →
        effect (.retrainRequest q) (toSub q n 6 1) fun h => (h.requestTraining (n - 0x1040)).set n 6 1)
    ∧ effect (.openSiteBind q) (toObj q 0x1061) (fun h => h.siteRebind (q.sub - 1) (written (toObj q 0x1061)))
    ∧ effect (.driftedSlabs q) { q with index := 0x4332, value := leBytes 4 0 } (fun h => h.driftWrite (q.sub - 1) 0)
    ∧ effect (.load q) (toVal q 0x4002 1) (fun h => h.loadModel (q.sub - 1))
    ∧ effect (.retire q) (toVal q 0x4002 2) (fun h => h.retireModel (q.sub - 1))
    ∧ effect (.intakeConfig q) (toObj q 0x4110) (fun h => h.writeIntakeCfg (q.sub - 1) (written (toObj q 0x4110)))
    ∧ effect (.portRetrain q) (toSub q 0x3001 3 1) State.portRetrainWrite
    ∧ effect (.portRole q) (toObj q 0x3101) (fun h => h.writeRole (q.sub - 1) (written (toObj q 0x3101)))
    ∧ effect (.topology q) { q with index := 0x3102, sub := 1 }
        (fun h => h.writeTopo (written { q with index := 0x3102, sub := 1 }))
    ∧ effect (.form q) (toSub q 0x3110 1 1) (fun h => h.pairWrite 1)
    ∧ effect (.donate q) (toSub q 0x3110 1 2) (fun h => h.pairWrite 2)
    ∧ effect (.receive q) (toSub q 0x3110 1 3) (fun h => h.pairWrite 3)
    ∧ effect (.leave q) (toSub q 0x3110 1 0) (fun h => h.pairWrite 0)
    ∧ effect (.tgenStart q) (toVal q 0x5021 1) (fun h => h.tgenStart q.sub)
    ∧ effect (.tgenStop q) (toVal q 0x5021 2) (fun h => h.tgenStop q.sub)
    ∧ effect (.deepIdleRequest q) (toSub q 0x2002 2 1) (fun h => h.deepIdleWrite 1)
    ∧ effect (.deepIdleExit q) (toSub q 0x2002 2 0) (fun h => h.deepIdleWrite 0)
    ∧ effect (.keepWarm q) { q with index := 0x2101, sub := 3 }
        (fun h => h.set 0x2101 3 (written { q with index := 0x2101, sub := 3 }))
    ∧ effect (.pause q) (toVal q 0x5100 1) (fun h => h.bgWrite (q.sub - 1) 1)
    ∧ effect (.run q) (toVal q 0x5100 0) (fun h => h.bgWrite (q.sub - 1) 0)
    ∧ effect (.resetRequest q) { q with index := 0x6000, sub := 1 }
        (fun h => h.resetAsked (fld (written { q with index := 0x6000, sub := 1 }) 15 8)
          (fld (written { q with index := 0x6000, sub := 1 }) 7 0))
    ∧ effect (.ctxHold q) (toVal q 0x6005 0) (fun h => h.set 0x6005 q.sub 0)
    ∧ effect (.begin q) (toSub q 0x1110 1 1) (fun h => h.imageControlWrite 1)
    ∧ effect (.imageWindow q) { q with index := 0x1110, sub := 3 }
        (fun h => h.imageStore (leBytes r.ty.size (written { q with index := 0x1110, sub := 3 })))
    ∧ effect (.imageOffset q) { q with index := 0x1110, sub := 2 }
        (fun h => h.set 0x1110 2 (written { q with index := 0x1110, sub := 2 }))
    ∧ effect (.commit q) (toSub q 0x1110 1 2) (fun h => h.imageControlWrite 2)
    ∧ effect (.abort q) (toSub q 0x1110 1 3) (fun h => h.imageControlWrite 3)
    ∧ effect (.svnCommit q) (toSub q 0x1102 4 1) State.svnCommit
    ∧ effect (.attestNonce q) (toObj q 0x1120)
        (fun h => h.attestStart (q.sub - 1) (leBytes r.ty.size (written (toObj q 0x1120))))

/-- A write to an object of access RO, of a wrong length, or to an RWS object whose semaphore the seat does not hold changes
no object and no counter but the requests' own. -/
def Obligations.BarredWriteChangesNoObject : Prop :=
  ∀ (s : State) (q : Req) (r : Row) (seat : Nat) (a : Answer), q.op = 2 → s.takes q 2 = true → q.rsv = 0 →
    (s.heard q).seatOf q.stream = some seat → findRow q.index q.sub = some r → s.serves q.index = true →
    (s.heard q).writeBarred q r seat = some a →
      Completes (.write q) s fun t => t = (s.heard q).answer q.stream 2 q.tag a ∧ t.obj = s.obj ∧ t.mem = s.mem
        ∧ t.sched = s.sched ∧ t.pkg = s.pkg

/-! ## The memory system and background work (chapters 08 and 15) -/

/-- Refresh, temperature samples, prefetches, the end of a traffic-generator run and of the package wipe. -/
def Obligations.MemoryEventsComplete : Prop :=
  (∀ (s : State) (h : Nat) (c : ChannelCosts), Canonical s → CountersBounded s → h < 8 → c.pc < 32 → s.stackUp h = true →
    Completes (.hbmRefresh h c) s fun t =>
      t.memsys = { s.memsys with refreshes := s.memsys.refreshes + 1 } ∧ t.mem = s.mem ∧ t.obj = s.obj
        ∧ Rises s t 0x8036 1 c.ceHbm ∧ Rises s t 0x8036 3 c.ceSram ∧ Rises s t 0x8036 0x0A c.bankConflicts
        ∧ Rises s t 0x8036 0x0B c.turnarounds ∧ Rises s t 0x8036 0x0D (if s.get 0x5004 (h + 1) = 0 then 0 else c.throttleNs))
  ∧ (∀ (s : State) (md : Nat) (a b c d : Int), Canonical s → md < 2 → (∀ x ∈ [a, b, c, d], x < (s.get 0x2201 3 : Int)) →
      Completes (.hbmTempSample md [a, b, c, d]) s fun t => t.get 0x5003 (md * 4 + 1) = ofSigned 8 a
        ∧ t.get 0x5003 (md * 4 + 2) = ofSigned 8 b ∧ t.get 0x5003 (md * 4 + 3) = ofSigned 8 c
        ∧ t.get 0x5003 (md * 4 + 4) = ofSigned 8 d ∧ t.mem = s.mem)
  ∧ (∀ (s : State) (ctx line : Nat) (learned : Bool), Canonical s → CountersBounded s → ctx < 64 → (s.ctx ctx).phase = .ready →
      s.inS2 = true → s.stackUp (stackOf (lineBase line)) = true → s.mayPrefetch ctx (lineBase line) = true →
      s.reaches ctx (lineBase line) learned = true → isUe s.ue (lineBase line) = false → s.isLost (lineBase line) = false →
      Completes (.prefetch ctx line learned) s fun t =>
        (t.memsys.lines.any fun c => c.line == lineBase line && c.ctx == ctx && c.pref) = true ∧ Rises s t 0x8036 8 1
          ∧ (NoErrors s → t.mem = s.mem))
  ∧ (∀ (s : State) (sub acc bad first lanes retried : Nat) (repairs : List HbmRow) (ok : Bool) (g : Tgen), Canonical s →
      sub < 256 → (s.memsys.tgens.find? fun t => t.sub == sub) = some g →
      let r := (List.range acc).foldl (TgRun.step ((sub - 1) / 16) ((sub - 1) % 16) g.cfg) ⟨s.mem, s.ue, [], 0, none, 0⟩
      Completes (.tgenRunDone sub acc bad first lanes retried repairs ok) s fun t => t.get 0x5021 sub = 2
        ∧ (Tg.opMode g.cfg = 0 → t.get 0x5022 sub = acc % 2 ^ 64)
        ∧ (Tg.opMode g.cfg ≠ 0 → t.get 0x5022 sub = acc % 2 ^ 64 + (r.bad + bad) % 2 ^ 64 * 2 ^ 64
            + (r.first.getD first) % 2 ^ 26 * 2 ^ 128 + (r.lanes ||| lanes) % 2 ^ 64 * 2 ^ 160)
        ∧ (t.memsys.tgens.any fun x => x.sub == sub) = false
        ∧ (∀ a, memRd t.mem a = if g.outside && decide (a < poolFlat) && r.outside.contains (rowAt a) then 0#8 else memRd r.mem a))
  ∧ (∀ (s : State) (retried : Nat) (repairs : List HbmRow), Canonical s → s.get 0x5030 1 = 1 →
      (Completes (.wipeDone retried repairs []) s fun t => t.get 0x5030 1 = 2 ∧ t.mem = s.mem)
      ∧ (∀ h, h < 8 → s.assembling = true → s.sec.decom = false → Completes (.wipeDone retried repairs [h]) s fun t =>
          t.get 0x5030 1 = 3 ∧ t.stage = 3 ∧ t.stackState h = 4))

/-- The throttle step of a stack (R257): the highest step whose threshold the temperature has reached, one step less once it
has fallen by the hysteresis, else the step in force. A sample reports it for each stack of its die, and counts each change. -/
def Obligations.ThrottleStepFollowsTheThresholds : Prop :=
  (∀ (s : State) (now : Nat) (t : Int),
    (now < s.throttleStep now t → s.throttleAt (s.throttleStep now t) ≤ t
      ∧ ∀ k, k ≤ 4 → s.throttleStep now t < k → t < s.throttleAt k)
    ∧ ((∀ k, now < k → k ≤ 4 → t < s.throttleAt k) →
        s.throttleStep now t = if 1 ≤ now ∧ t ≤ s.throttleAt now - s.get 0x5005 3 then now - 1 else now))
  ∧ ∀ (s : State) (md : Nat) (a b c d : Int), Canonical s → CountersBounded s → md < 2 →
    (∀ x ∈ [a, b, c, d], -128 ≤ x ∧ x < 128 ∧ x < (s.get 0x2201 3 : Int)) →
      let samples : List (Nat × Int) := [(md * 4 + 1, a), (md * 4 + 2, b), (md * 4 + 3, c), (md * 4 + 4, d)]
      Completes (.hbmTempSample md [a, b, c, d]) s fun t =>
        (∀ p ∈ samples, t.get 0x5004 p.1 = s.throttleStep (s.get 0x5004 p.1) p.2)
        ∧ Rises s t 0x8036 0x0C (samples.filter fun p => s.throttleStep (s.get 0x5004 p.1) p.2 != s.get 0x5004 p.1).length

/-- Scrubbing, calibration, voltage steps, wear levelling, telemetry, the digest walk and the pause limit. -/
def Obligations.BackgroundWorkCompletes : Prop :=
  (∀ (s : State) (a : Nat) (skipped : Bool), Canonical s → CountersBounded s → smWf 0 s.bg.scrubAt = true → NoErrors s →
      let k := lineChannel (lineBase a)
      let ends := (List.range 256).all fun n => s.scrubbed n + b2n (n == k) == pcLines
      s.taskActive 0 = true → isHbm a = true → linePlace (lineBase a) = s.scrubbed k →
      Completes (.hbmScrub a 0 skipped ends) s fun t => Rises s t 0x803D 1 1 ∧ t.mem = s.mem ∧ t.obj = s.obj
        ∧ (ends = false → t.scrubbed k = s.scrubbed k + 1) ∧ (ends = true → t.bg.scrubAt = [] ∧ Rises s t 0x803D 2 1))
  ∧ (∀ (s : State) (a : Nat), s.taskActive 1 = true → s.bankClocked a = true → NoErrors s →
      Completes (.sramScrub a 0 false) s fun t =>
        t = { s with bg := { s.bg with sramWords := s.bg.sramWords + 1 } })
  ∧ (∀ (s : State) (link : Nat), smWf ({} : Tenon) s.pkg.links = true → s.taskActive 2 = true → s.linkUp link = true →
      (s.linkBusy link = false → s.link link ≠ 5 → Completes (.tenonEq link) s fun t => t = s.bump 0x803D 5 1)
      ∧ (s.linkBusy link = true ∨ s.link link = 5 → Completes (.tenonEq link) s fun t =>
          (t.tenon link).eqWait = (s.tenon link).eqWait + 1 ∧ t.ctr = s.ctr))
  ∧ (∀ (s : State) (sub : Nat), Canonical s → CountersBounded s → 1 ≤ sub → sub ≤ 128 → s.taskActive 3 = true →
      (Completes (.hbmRetrain sub true) s fun t => sub ∉ t.bg.retrainWait ∧ Rises s t 0x803D 6 1)
      ∧ (Completes (.hbmRetrain sub false) s fun t => sub ∈ t.bg.retrainWait ∧ t.ctr = s.ctr)
      ∧ (sub ∈ s.bg.retrainWait → Completes (.hbmRetrainWaitExpiry sub) s fun t =>
          sub ∉ t.bg.retrainWait ∧ Rises s t 0x803D 6 1))
  ∧ (∀ (s : State) (e heater : Nat) (limit : Bool), Canonical s → s.lit e = true → Completes (.opticalTune e heater limit) s fun t =>
      t.get 0x2203 (e + 1) = setBit (s.get 0x2203 (e + 1)) 1 limit ∧ t.bg.heaters = smSet 0 s.bg.heaters e heater)
  ∧ (∀ (s : State) (rail v : Nat), rail < 7 → s.taskActive 5 = true → smWf 0 s.bg.targets = true →
      (railRange rail).2.1 ≤ v → v ≤ (railRange rail).2.2 → v % 5 = 0 →
      Completes (.avs [(rail, v)]) s fun t => smGet 0 t.bg.targets rail = v)
  ∧ (∀ (s : State) (rail : Nat), rail < 7 → s.taskActive 5 = true → rail ∉ s.bg.stoppedRails →
      smWf 0 s.bg.rails = true → s.railSet rail < smGet (s.railSet rail) s.bg.targets rail →
      Completes (.avsStep rail) s fun t => t.railSet rail = s.railSet rail + 5)
  ∧ (∀ (s : State) (rail : Nat), rail < 7 → rail ∉ s.bg.stoppedRails → Completes (.avsNack rail) s fun t =>
      rail ∈ t.bg.stoppedRails ∧ t.bg.rails = smSet (railRange rail).1 s.bg.rails rail
        (smGet (s.railSet rail) s.bg.acked rail))
  ∧ (∀ (s : State) (block writes : Nat), s.paused 6 = false → (∀ h ∈ s.plan.halves, h.buffer = []) →
      Completes (.nvsWear block writes) s fun t => t.bg.wear = smSet 0 s.bg.wear block writes
        ∧ (smWf 0 s.bg.remap = true → smGet 0 t.bg.remap block ≠ 0) ∧ t.mem = s.mem)
  ∧ (∀ (s : State) (full : List Nat), s.taskActive 7 = true → s.telemetry ≠ [] →
      Completes (.telemetryPeriod full) s fun t => t.bg.recSeq = (s.bg.recSeq + 1) % 2 ^ 32
        ∧ (∀ n ∈ s.telemetry, n ∈ full → n ∈ t.bg.missed) ∧ t.obj = s.obj)
  ∧ (∀ (s : State) (ctx job k sweep : Nat) (late : Bool), Canonical s → CountersBounded s → s.taskActive 8 = true →
      let id : SlabId := ⟨ctx, job, k, sweep⟩
      s.walkNext = some id.key → Completes (.digestWalk ctx job k sweep late) s fun t =>
        t.bg.digestNext = id.key + 1 ∧ t.bg.digestAt = (if id.key < s.bg.digestNext then 1 else s.bg.digestAt + 1)
          ∧ Rises s t 0x803D 0x0B 1 ∧ Rises s t 0x803D 3 (if late then 1 else 0)
          ∧ (NoErrors s → s.plan.job = none → t.mem = s.mem))
  ∧ (∀ (s : State) (task : Nat), Canonical s → task < 9 → task ≠ 4 → task ≠ 7 → s.paused task = true →
      Completes (.pauseLimit task) s fun t => t.paused task = false)

/-! ## Clocks, power and temperature (chapters 14 and 18) -/

/-- The idle delays stop a group's clock and a die's PLL; starts and stops end; a lost clock or a silent die is fenced. -/
def Obligations.ClockEventsComplete : Prop :=
  ∀ s : State, Canonical s →
    (∀ g, g < 40 → s.groupClock g = 2 → s.sched.flights = [] → Completes (.groupIdleDelay g) s fun t =>
        t.groupClock g = 3 ∧ ∀ x < 40, x ≠ g → t.groupClock x = s.groupClock x)
    ∧ (∀ d, d < 4 → s.pll d = 2 → bit (s.get 0x2101 3) d = false → (∀ g ∈ groupsOfDie d, s.groupClock g = 0) →
        Completes (.dieIdleDelay d) s fun t => t.pll d = 3 ∧ ∀ x < 7, x ≠ d → t.pll x = s.pll x)
    ∧ (∀ g, g < 40 → s.groupClock g = 1 → s.pkg.wakeWait = [] → Completes (.clockStartComplete false g) s fun t =>
        t.groupClock g = 2)
    ∧ (∀ p, p < 7 → s.pll p = 1 → s.pkg.wakeWait = [] → Completes (.clockStartComplete true p) s fun t => t.pll p = 2)
    ∧ (∀ g, g < 40 → s.groupClock g = 3 → Completes (.clockStopComplete false g) s fun t => t.groupClock g = 0)
    ∧ (∀ p, p < 7 → s.pll p = 3 → Completes (.clockStopComplete true p) s fun t => t.pll p = 0)
    ∧ (∀ u, u < 4 → Quiet s → s.diesRun = true → s.dieState u = 3 → s.pll u = 2 → Completes (.clockLoss u) s fun t =>
        t.dieState u = 4 ∧ t.tag u = (s.tag u + 1) % 256 ∧ t.mem = s.mem)
    ∧ (∀ u, u < 4 → Quiet s → s.diesRun = true → s.dieState u = 3 → s.get 0x2002 1 ≠ 2 → Completes (.dieSilence u) s fun t =>
        t.dieState u = 4 ∧ t.tag u = (s.tag u + 1) % 256 ∧ t.mem = s.mem)

/-- The feeds, the rails, the write-back, the reference clock, temperatures, power windows, laser light, test access. -/
def Obligations.PowerEventsComplete : Prop :=
  ∀ s : State, Canonical s → CountersBounded s →
    (s.pkg.resetHeld = false → s.get 0x2001 1 ≠ 1 → bit (s.get 0x2001 2) 10 = true → s.canRetain = false → s.stage ≠ 5 →
        Completes .switchover s fun t => t.get 0x2001 1 = 1 ∧ Rises s t 0x803C 1 1 ∧ t.mem = s.mem)
    ∧ (s.pkg.resetHeld = false → Completes .vaoMainRestored s fun t => t.get 0x2001 1 = 0
        ∧ t.get 0x2001 2 = setBit (s.get 0x2001 2) 9 true)
    ∧ (∀ rail, rail < 9 → s.stage = 6 → Completes (.mainRailOutOfRange rail) s fun t =>
        t = s.set 0x2001 2 (setBit (s.get 0x2001 2) rail false))
    ∧ (∀ rail, rail < 7 → s.stage = 6 → Completes (.pmbAlert rail true) s fun t =>
        t = s.set 0x2001 2 (setBit (s.get 0x2001 2) rail false))
    ∧ (s.stage = 5 → Completes .writeBackComplete s fun t => t.stage = 6 ∧ t.memsys.lines = [] ∧ t.pkg.wroteBack = true)
    ∧ (s.stage = 6 → s.get 0x2001 1 = 0 → s.pkg.trip = false → s.get 0x2001 3 ≠ 2 → Completes .returnFromRetention s fun t =>
        t.stage = 7 ∧ (∀ a, a < poolFlat → memRd t.mem a = memRd s.mem a) ∧ ∀ a, poolFlat ≤ a → memRd t.mem a = 0#8)
    ∧ (∀ state, state < 3 → s.assembling = false → Completes (.refClockEvent state) s fun t => t = s.set 0x2100 2 state)
    ∧ (∀ temps : List Int, temps.length = 7 → (∀ x ∈ temps, -128 ≤ x ∧ x < 105) → Completes (.dieTempSample temps) s fun t =>
        (∀ u < 7, t.get 0x2200 (u + 1) = ofSigned 8 (temps.getD u 0)) ∧ t.pkg.trip = s.pkg.trip)
    ∧ ((∀ u < 7, s.dieTemp u < 85) → (∀ h < 8, toSigned 8 (s.get 0x5003 (h + 1)) < 85) → Completes .thermtripRelease s
        fun t => t = { s with pkg := { s.pkg with trip := false } })
    ∧ (s.pkg.trip = true → s.retaining = false → Completes .tripRailsKept s fun t =>
        (∀ u < 6, s.dieState u ≠ 5 → t.dieState u = 1) ∧ Rises s t 0x8040 5 1)
    ∧ (∀ mw, mw < 2 ^ 32 → Completes (.powerWindow mw) s fun t => t.get 0x2005 1 = mw
        ∧ t.pkg.powerBlocked = decide (s.get 0x2005 2 < mw))
    ∧ (∀ e, e < 7 → Completes (.laserLow e) s fun t => bit (t.get 0x2203 (e + 1)) 0 = true)
    ∧ (∀ e, e < 7 → Completes (.laserRestored e) s fun t => bit (t.get 0x2203 (e + 1)) 0 = false)
    ∧ Completes .powerLoss s (fun t => t.mem = [] ∧ t.ctr = [] ∧ t.sched.flights = [] ∧ t.pkg.resetHeld = true
        ∧ t.sec.secret = s.sec.secret ∧ t.log.ring = s.log.ring)
    ∧ (s.inS2 = true → s.get 0x2002 1 = 2 → s.pkg.exiting = true → Completes .deepIdleExitComplete s fun t =>
        t.get 0x2002 2 = 0 ∧ t.pkg.exiting = false)
    ∧ (∀ code, Completes (.testAccessPort code) s fun t => t = { s with pkg := { s.pkg with jtag :=
        if code = 3 ∧ s.pkg.resetHeld = false then 0 else if 4 ≤ code ∧ s.lifecycle ≠ 0 then 0 else code } })

/-! ## Start, faults, replays, security (chapters 14, 16, 17) -/

/-- SUPPLIES_GOOD starts the device: time runs from 0, the dies stand in reset, and the stage is S0, or S0_RECOVERY where the
image fails. RESET_N alone keeps everything until the package reset that it asks for. -/
def Obligations.BoardCommandsComplete : Prop :=
  ∀ s : State, Canonical s →
    (∀ (rails : Nat) (bad : Bool), s.pkg.resetHeld = true → s.pkg.booted = false → bit rails 9 = true →
      Completes (.suppliesGood rails bad) s fun t => t.time = 0 ∧ t.pkg.resetHeld = false ∧ t.pkg.booted = true
        ∧ t.get 0x2001 2 = rails % 2 ^ 11 ∧ t.get 0x2001 1 = 0 ∧ t.dieState 14 = 0
        ∧ (∀ u < 14, t.dieState u = if s.sec.decom then 2 else 1) ∧ (s.sec.decom = true → t.get 0x5030 1 = 1)
        ∧ t.stage = (if t.get 0x1102 1 = 0 then 0 else 1) ∧ t.mem = s.mem)
    ∧ (s.pkg.booted = false → Completes .resetN s fun t => t = { s with pkg := { s.pkg with resetHeld := true } })
    ∧ (s.pkg.booted = true → (s.pkg.resets.any fun r => r.domType == 6) = false → Completes .resetN s fun t =>
        t.pkg.resetHeld = true ∧ t.pkg.resets = [⟨6, 0, 8, 0, s.log.seq⟩] ∧ t.mem = s.mem)

/-- The commands of the assembly (R36-R44, R437-R440): each takes its step, or holds the package. -/
def Obligations.AssemblyCommandsComplete : Prop :=
  ∀ s : State, Canonical s →
    (s.stage = 0 → s.pkg.booted = true → s.pkg.resetHeld = false → s.pkg.resets = [] → s.get 0x1102 1 = 0 → s.lifecycle ≠ 4 →
      s.get 0x2100 2 = 1 → s.get 0x2003 1 = 0 → s.pkg.trip = false → Completes .s1Entry s fun t => t.stage = 2
        ∧ t.asmStepNo = 1 ∧ ∀ u, u = 4 ∨ u = 5 → s.dieState u ≠ 5 → t.dieState u = 2)
    ∧ (∀ u, u < 6 → s.assembling = true → s.dieState u = 2 → s.resolved1 u = false → ∀ r : SelfTest, r ≠ .failed →
      Completes (.dieSelfTestDone u r) s fun t => t.dieState u = 2 ∧ (t.link (13 + u) = 4 ∨ t.link (13 + u) = 5))
    ∧ (s.assembling = true → s.dieState 6 = 2 → s.resolved1 6 = false → ∀ r : SelfTest, r ≠ .failed →
      Completes (.dieSelfTestDone 6 r) s fun t => t.pkg.iodDescBad = (r == .descriptorBad))
    ∧ (∀ u w, u < 4 → w < 4 → w ≠ u → s.assembling = true → s.asmStepNo = 2 → s.dieState u = 2 → s.resolved1 u = false →
      s.resolved1 w = false →
      (Completes (.dieSelfTestDone u .failed) s fun t => t.dieState u = 5 ∧ bit (t.get 0x6002 1) u = true)
      ∧ (s.pll u = 1 → Completes (.pllLockTimeout u) s fun t => t.dieState u = 5 ∧ t.pll u = 0
          ∧ bit (t.get 0x6002 1) u = true))
    ∧ (∀ u w, 4 ≤ u → u < 7 → 4 ≤ w → w < 6 → w ≠ u → s.assembling = true → s.asmStepNo = 1 → s.dieState u = 2 →
      s.resolved1 u = false → s.resolved1 w = false →
      (Completes (.dieSelfTestDone u .failed) s fun t => t.pkg.conds = s.pkg.conds ++ [(u, 0x0A, 0)])
      ∧ (s.pll u = 1 → Completes (.pllLockTimeout u) s fun t => t.pkg.conds = s.pkg.conds ++ [(u, 0x09, 0)]))
    ∧ (∀ bad, s.assembling = true → s.asmStepNo = 5 → Completes (.opticalEnginesTuned bad) s fun t =>
        (t.pkg.conds = [] → t.asmStepNo = 6 ∧ ∀ e < 7, s.dieState (7 + e) ≠ 5 → e ∉ bad → t.dieState (7 + e) = 3)
        ∧ (t.pkg.conds ≠ [] → t.stage = 3))
    ∧ (∀ partner streaming width rate ident, s.assembling = true → s.asmStepNo = 6 →
      Completes (.openSiteDiscovery partner streaming width rate ident) s fun t => t.asmStepNo = 7
        ∧ (∀ h < 8, t.stackState h = 1)
        ∧ (partner = false → t.dieState 14 = 0 ∧ t.get 0x1060 1 = 0 ∧ t.get 0x1060 2 = 0)
        ∧ (partner = true → siteTrained streaming width rate = false →
            t.dieState 14 = 5 ∧ t.get 0x1060 1 = 0 ∧ t.get 0x1060 2 = 0)
        ∧ (partner = true → siteTrained streaming width rate = true →
            t.get 0x1060 1 = width / 8 ∧ t.get 0x1060 2 = rate
              ∧ t.dieState 14 = if 16 ≤ rate ∧ 1 ≤ fld ident 55 48 ∧ fld ident 55 48 ≤ 64 then 3 else 5))
    ∧ (∀ trained : List (Nat × Nat), s.assembling = true → s.asmStepNo = 7 → s.stackState 0 = 1 → s.pkg.conds = [] →
      Completes (.hbmTrainingDone trained) s fun t =>
        ((∃ h < 8, (nth (0, 0) trained h).1 = 0x10 ∨ (nth (0, 0) trained h).1 = 0x11) → t.stage = 3)
        ∧ ((∀ h < 8, nth (0, 0) trained h = (0, 0)) → s.stage = 2 → t.mem = [] ∧ t.ue = [] ∧ t.get 0x5030 1 = 1
            ∧ ∀ h < 8, t.stackState h = 2)
        ∧ ((∀ h < 8, nth (0, 0) trained h = (0, 0)) → s.stage = 7 → s.get 0x5030 1 = 2 → t.asmStepNo = 8))
    ∧ (s.assembling = true → s.asmStepNo = 8 → s.pkg.conds = [] → s.admittedOf 1 ≠ [] → s.plan.queue = [] →
      Completes (.s1End []) s fun t => t.stage = 4 ∧ t.asmStepNo = 0 ∧ t.net.wantFull = true)
    ∧ (s.stage = 2 → s.pkg.conds = [] → Completes .s1Timeout s fun t => t.stage = 3 ∧ t.get 0x1030 1 = 0x0B000000)
    ∧ (∀ (r : LinkRun) (crcBad : Bool), r.link ∈ linkNums → s.link r.link = 4 →
      Completes (.tenonTrainingDone r crcBad) s fun t =>
        t.get (0x1040 + r.link) 2 = r.failedAB % 2 ^ 66 ∧ t.get (0x1040 + r.link) 3 = r.failedBA % 2 ^ 66
        ∧ t.get (0x1040 + r.link) 5 = (s.get (0x1040 + r.link) 5 + 1) % 2 ^ 32 ∧ t.get (0x1040 + r.link) 6 = 0
        ∧ (s.assembling = false ∨ ((13 ≤ r.link ∨ s.asmStepNo = 4) ∧ (s.dieState (linkEnds r.link).1 = 2 → crcBad = false)) →
            t.link r.link = min (widthOf r.failedAB) (widthOf r.failedBA))
        ∧ (s.assembling = true → s.asmStepNo = 2 → s.pkg.conds = [] → 13 ≤ r.link → r.link < 17 →
            s.dieState (linkEnds r.link).1 = 2 → (crcBad = true ∨ min (widthOf r.failedAB) (widthOf r.failedBA) = 0 → t.dieState (linkEnds r.link).1 = 5)))

/-- TIMEOUT and ABORT_LIMIT (R462, R466). -/
def Obligations.TimeoutsComplete : Prop :=
  ∀ (s : State) (id : Nat) (f : Flight), Canonical s → CountersBounded s → s.flight id = some f → s.retaining = false →
    (f.aborting = false → f.kind = .normal →
      (f.engine = .cores → s.arrivals f.ctx = [] → ∀ stuck, Completes (.timeout id [] stuck) s fun t =>
        t.flight id = none ∧ Sends s t (finals f.addrs (firstStatus (f.found ++ [.timeout]))) ∧ t.mem = s.mem)
      ∧ (f.engine = .cores → s.arrivals f.ctx = [] → ∀ unacked stuck, f.cores.filter unacked.contains ≠ [] →
        Completes (.timeout id unacked stuck) s fun t =>
          (∃ g, t.flight id = some g ∧ g.aborting = true ∧ g.cores = f.cores.filter unacked.contains)
            ∧ t.sched.comps = s.sched.comps ∧ t.mem = s.mem)
      ∧ (f.engine = .codec ∨ f.engine = .intake → ∀ unacked, Completes (.timeout id unacked false) s fun t =>
        t.flight id = none ∧ Sends s t (finals f.addrs (firstStatus (f.found ++ [.timeout]))) ∧ t.mem = s.mem)
      ∧ (f.engine ≠ .cores → ∀ unacked, Completes (.timeout id unacked true) s fun t =>
        (∃ g, t.flight id = some g ∧ g.aborting = true) ∧ t.sched.comps = s.sched.comps ∧ t.mem = s.mem))
    ∧ (f.aborting = true →
      (f.engine = .cores → f.isStream true = false → f.isStream false = false → ∀ half,
        Completes (.abortLimit id half) s fun t => Rises s t 0x803E 2 1
          ∧ ∀ k ∈ f.cores, (t.pkg.resets.any fun r => domCovers r.domType r.domIndex 1 (groupOf k)) = true)
      ∧ (f.engine = .codec → f.kind = .normal → ∀ half, Completes (.abortLimit id half) s fun t => Rises s t 0x803E 2 1
          ∧ Rises s t 0x803E 6 1 ∧ Sends s t (finals f.addrs (firstStatus (f.found ++ [.timeout])))))

/-- CRASH_DUMP, REJOIN and IOD_LOSS (R461, R471, R474, R477, R482, R485). -/
def Obligations.ResetsComplete : Prop :=
  ∀ s : State, Canonical s → CountersBounded s →
    (∀ (type index : Nat) (silent : List Nat) (r : Reset), type ≠ 6 →
      (s.pkg.resets.find? fun r => r.domType == type && r.domIndex == index && r.step == 0) = some r →
      Completes (.crashDump type index silent) s fun t =>
        (t.pkg.resets.any fun r => r.domType == type && r.domIndex == index && r.step == 0) = false
        ∧ (t.pkg.resets.any fun r => r.domType == type && r.domIndex == index && r.step == 1) = true
        ∧ t.log.dumpSeq = (s.log.dumpSeq + 1) % 2 ^ 32
        ∧ (type = 1 → ∀ a, sliceFlat ≤ a → groupOf (sliceKey a / 8) = index → memRd t.mem a = 0#8)
        ∧ (type = 3 → ∀ a, sliceFlat ≤ a → dieOfCore (sliceKey a / 8) = index → memRd t.mem a = 0#8))
    ∧ (∀ (silent : List Nat) (r : Reset),
      (s.pkg.resets.find? fun r => r.domType == 6 && r.domIndex == 0 && r.step == 0) = some r →
      Completes (.crashDump 6 0 silent) s fun t => t.mem = [] ∧ t.ue = [] ∧ t.sched.flights = [] ∧ t.pkg.resets = []
        ∧ t.get 0x6001 2 = (s.get 0x6001 2 + 1) % 2 ^ 32 ∧ (∀ u < 15, t.tag u = (s.tag u + 1) % 256)
        ∧ (s.pkg.resetHeld = true → t.pkg.booted = false) ∧ (s.pkg.resetHeld = false → t.pkg.booted = true))
    ∧ (∀ (g desc retried : Nat) (runs : List LinkRun) (repairs : List HbmRow), g < 40 → s.plan.queue = [] → s.plan.job = none →
      (s.pkg.resets.any fun r => r.domType == 1 && r.domIndex == g && r.step == 1) = true →
      Completes (.rejoin 1 g true desc runs retried repairs) s fun t =>
        t.pkg.resets = s.pkg.resets.filter (fun r => !(r.domType == 1 && r.domIndex == g))
        ∧ (∀ x ∈ s.sched.interrupted, x.domType = 1 → x.domIndex = g → x ∈ t.sched.suspects) ∧ t.mem = s.mem)
    ∧ (∀ (u desc retried : Nat) (runs : List LinkRun) (repairs : List HbmRow), u < 4 → s.plan.queue = [] → s.plan.job = none →
      (s.pkg.resets.any fun r => r.domType == 3 && r.domIndex == u && r.step == 1) = true → s.rejoinBusy 3 u = false →
      s.rejoinOk u desc = true → (∃ r ∈ runs, r.link ∈ linksOf u ∧ widthOf r.failedAB ≠ 0 ∧ widthOf r.failedBA ≠ 0) →
      Completes (.rejoin 3 u true desc runs retried repairs) s fun t => t.dieState u = 3 ∧ t.pll u = 2
        ∧ (t.pkg.resets.any fun r => r.domType == 3 && r.domIndex == u) = false)
    ∧ (∀ (type index desc retried : Nat) (runs : List LinkRun) (repairs : List HbmRow),
      (s.pkg.resets.any fun r => r.domType == type && r.domIndex == index && r.step == 1) = true →
      s.rejoinBusy type index = false →
      Completes (.rejoin type index false desc runs retried repairs) s fun t => Rises s t 0x803E 0x0C 1)
    ∧ (s.pkg.booted = true → (s.pkg.resets.any fun r => r.domType == 6) = false → Completes .iodLoss s fun t =>
        let all := s.plan.ring ++ s.plan.halves.flatMap (·.buffer)
        t.pkg.resets = [⟨6, 0, 6, 0, s.log.seq⟩] ∧ t.plan.ring = keepRing all all
          ∧ ((∀ h < 2, (all.filter fun r => Jr.half r == h).length ≤ ringRecords) → t.plan.ring = all))

/-- SUSPECT_REPLAY (R468, R469): a replay whose entries all end well answers each interrupted command REPLAYED_CLEAN; one that
meets a bad status answers each REPLAYED_GUILTY and holds the context. -/
def Obligations.ReplaysComplete : Prop :=
  ∀ (s : State) (c : Nat) (envs : List Env), s.nextSuspect = some c → s.replayReady c = true →
    let u := replayed s c envs
    Canonical u → CountersBounded u →
    ((∀ st ∈ u.sched.replayFound, st.valid = true) → (∀ f ∈ u.sched.flights, f.kind ≠ .replay) →
      Completes (.suspectReplay envs) s fun t => Sends u t (replayAnswers u c .replayedClean)
        ∧ (∀ x ∈ t.sched.suspects, x.ctx ≠ c) ∧ Rises u t 0x803E 9 1)
    ∧ ((∃ st ∈ u.sched.replayFound, st.valid = false) →
      Completes (.suspectReplay envs) s fun t => Sends u t (replayAnswers u c .replayedGuilty)
        ∧ (∀ x ∈ t.sched.suspects, x.ctx ≠ c) ∧ Rises u t 0x803E 0x0A 1 ∧ t.get 0x6005 (c + 1) = 1)

/-- The end of a COMMIT's checks, the end of a signing, and LC_REQUEST (R492, R497, R502, R503). -/
def Obligations.SecurityCommandsComplete : Prop :=
  ∀ s : State, Canonical s → CountersBounded s →
    (∀ bad : Bool, s.imageControl = 2 →
      let code := { s with sec := { s.sec with imageBad := bad } }.imageCheck
      Completes (.imageChecksEnd bad) s fun t => t.get 0x1110 4 = code ∧ t.imageControl = (if code = 0 then 3 else 4)
        ∧ (code ≠ 0 → Rises s t 0x803F 3 1) ∧ t.sec.image = s.sec.image)
    ∧ (∀ (seat : Nat) (b : List Byte) (k : Nat), seat < 2 → nth none s.sec.signing seat = some b → s.sec.key = some k →
      Completes (.signingComplete seat) s fun t => t.get 0x1122 (seat + 1) = 2
        ∧ t.get 0x1121 (seat + 1) = leNat (b ++ leBytes 3309 (Config.mldsaSign k b) ++ leBytes 3 0)
        ∧ nth none t.sec.signing seat = none ∧ Rises s t 0x803F 1 1)
    ∧ (∀ (q : Req) (r : Row) (seat : Nat),
      let w : Req := { q with index := 0x1100, sub := 2 }
      let h := s.heard w
      let goal := definedBits 0x1100 2 (leNat q.value)
      StreamsOk s → q.op = 2 → s.takes w 2 = true → q.rsv = 0 → h.seatOf q.stream = some seat → findRow 0x1100 2 = some r →
      h.objReason 0x1100 2 = none → h.writeBarred w r seat = none → h.inRange r 0x1100 2 goal = true →
        (s.sec.blow = none → h.lcResult goal ≠ 0 → Completes (.lcRequest q) s fun t => t.get 0x1100 5 = h.lcResult goal
            ∧ t.sec.records = s.sec.records ∧ t.sec.lcCount = s.sec.lcCount ∧ t.sec.blow = none ∧ t.pkg.resets = s.pkg.resets
            ∧ outgoing t q.stream = outgoing h q.stream ++ answerBytes 2 q.tag (refusal w 6))
        ∧ (s.sec.blow = none → h.lcResult goal = 0 → Completes (.lcRequest q) s fun t =>
            t.get 0x1100 5 = 0 ∧ t.sec.blow = some goal ∧ t.sec.lcCount = s.sec.lcCount
            ∧ (s.sec.records.length = 2 → ⟨goal, min 64 (s.sec.lcCount + 1)⟩ ∈ t.sec.records)
            ∧ outgoing t q.stream = outgoing h q.stream ++ answerBytes 2 q.tag (doneAnswer w))
        ∧ (s.sec.blow.isSome = true → Completes (.lcRequest q) s fun t => t.sec.blow = s.sec.blow
            ∧ t.sec.records = s.sec.records
            ∧ outgoing t q.stream = outgoing h q.stream ++ answerBytes 2 q.tag (refusal w 6)))

/-- No step undoes a fuse: the key hash and the secret stay, SVN_FLOOR and the life-cycle count never fall, and a decommissioned
device stays one. -/
def Obligations.FusesOnlyBlow : Prop := ∀ s t : State, step s = .next t → FusesKept s t

/-! ## Lists, loads, contexts (chapter 10) -/

/-- COMMAND_LIST, ADMIT, ADMIT_LIMIT and MERGE_WINDOW (R314-R322, R325). -/
def Obligations.ListCommandsComplete : Prop :=
  ∀ s : State, Canonical s → CountersBounded s → FreshIds s →
    (∀ q : ListReq,
      let x := s.strm q.stream
      let l := newList s { q with stream := x.req.comp }
      let waiting := ((s.sched.lists.filter (·.waits)).map fun l => l.members.length).foldl (· + ·) 0
      x.hears 1 (listReqBytes q) = true → q.entries.length = ListHdr.count q.hdr → q.row.length = ListHdr.rowBytes q.hdr →
        (listHdrOk q.hdr = false ∨ recordOk (s.record l.model) = false ∨ s.rowBytesOk q.hdr = false →
          Completes (.commandList q) s fun t => Sends s t (refusals l .descriptorInvalid) ∧ t.sched.lists = s.sched.lists)
        ∧ (listHdrOk q.hdr = true → recordOk (s.record l.model) = true → s.rowBytesOk q.hdr = true →
          (4096 ≤ waiting → Completes (.commandList q) s fun t =>
            Sends s t (refusals l .refusedCapacity) ∧ Rises s t 0x8038 4 1 ∧ t.sched.lists = s.sched.lists)
          ∧ (waiting < 4096 →
            (s.modelState l.model ≠ 3 → ListHdr.onDemand q.hdr = false → Completes (.commandList q) s fun t =>
              Sends s t (refusals l .refusedNotResident) ∧ Rises s t 0x8038 7 q.entries.length ∧ t.sched.lists = s.sched.lists)
            ∧ (s.modelState l.model = 3 → ListHdr.mergeM q.hdr = 0 → s.mayDispatch (s.modelCtx l.model) = true →
              s.pairState ≠ 4 → (∀ y ∈ s.sched.lists, y.model = l.model → y.phase = .dispatched) →
                Completes (.commandList q) s fun t => Rises s t 0x8038 1 1
                  ∧ ∃ y ∈ t.sched.lists, y.id = l.id ∧ y.entries = q.entries ∧ y.phase = .dispatching)
            ∧ (s.modelState l.model = 3 → ListHdr.mergeM q.hdr = 0 →
              (∃ y ∈ s.sched.lists, y.model = l.model ∧ y.phase = .dispatching) →
                Completes (.commandList q) s fun t => Sends s t (finals (l.addrs 0) .deferred) ∧ Rises s t 0x8038 2 1
                  ∧ ∃ y ∈ t.sched.lists, y.id = l.id ∧ y.entries = q.entries ∧ y.phase = .queued))))
    ∧ (∀ (m : Nat) (l : CList), (s.sched.lists.find? fun l => l.model == m && l.waits) = some l → s.admissible l = true →
      Completes (.admitList m) s fun t =>
        (∃ y ∈ t.sched.lists, y.id = l.id ∧ y.phase = .dispatching ∧ y.admittedAt = s.time) ∧ t.sched.comps = s.sched.comps)
    ∧ (∀ (id : Nat) (l : CList), s.findList id = some l → s.retaining = false → (l.phase = .queued ∨ l.phase = .awaitLoad) →
      Completes (.admitLimit id) s fun t => t.findList id = none ∧ Sends s t (refusals l .refusedCapacity)
        ∧ Rises s t 0x8038 3 l.members.length)
    ∧ (∀ (id : Nat) (l : CList), s.findList id = some l → s.retaining = false → l.phase = .grouping →
      Completes (.mergeWindow id) s fun t => (∀ y ∈ t.sched.lists, y.id = id → y.phase ≠ .grouping)
        ∧ (∃ y ∈ t.sched.lists, y.id = id) ∧ Rises s t 0x8038 0x0A 1 ∧ Rises s t 0x8038 0x0B l.members.length)

/-- LOAD_DECISION, LOAD_FAILED and MODEL_STOP_COMPLETE (R306-R308, R310-R312). -/
def Obligations.LoadCommandsComplete : Prop :=
  ∀ s : State, Canonical s → s.sched.ctxs.length = 64 →
    (∀ l : Load, s.loadHead = some l → l.model < 255 → s.loadsWait = false →
      (∀ a, allocate (s.record l.model) s.holders s.sched.badRanges = some a → Completes .loadDecision s fun t =>
        t.modelState l.model = 2 ∧ t.modelCtx l.model = a.ctx ∧ (t.ctx a.ctx).phase = .loading
        ∧ (t.ctx a.ctx).model = l.model ∧ (t.ctx a.ctx).partBase = a.part * partUnit
        ∧ (∀ x ∈ t.sched.loads, x.model ≠ l.model) ∧ t.mem = s.mem)
      ∧ (allocate (s.record l.model) s.holders s.sched.badRanges = none → s.evictions (s.record l.model) = none →
        allocate (s.record l.model) (s.holders.filter fun h => !(h.2.phase == .stopping
            || (s.modelState h.2.model == 3 && !Rec.pin h.2.record))) s.sched.badRanges = none →
          Completes .loadDecision s fun t => t.modelState l.model = 6
            ∧ t.modelReason l.model = if (allocate (s.record l.model) [] s.sched.badRanges).isSome then 3 else 4))
    ∧ (∀ m, m < 255 → s.modelState m = 2 → s.modelCtx m < 64 → s.retaining = false → Completes (.loadFailed m) s fun t =>
        t.modelState m = 4 ∧ t.modelReason m = 8 ∧ (t.ctx (s.modelCtx m)).phase = .stopping)
    ∧ (∀ (m retried : Nat) (repairs : List HbmRow), m < 255 → s.modelCtx m < 64 → s.ctxBusy (s.modelCtx m) = false →
      (s.modelState m = 4 → Completes (.modelStopComplete m retried repairs true) s fun t => t.modelState m = 0
          ∧ t.modelCtx m = 0xFF ∧ t.ctx (s.modelCtx m) = noCtx
          ∧ ∀ a, ctxOwns (s.ctx (s.modelCtx m)) a = true → memRd t.mem a = 0#8)
      ∧ (s.modelState m = 4 → Completes (.modelStopComplete m retried repairs false) s fun t => t.modelState m = 0
          ∧ t.ctx (s.modelCtx m) = noCtx ∧ t.log.seq = (s.log.seq + 1) % 2 ^ 32
          ∧ ((s.ctx (s.modelCtx m)).partBase, (s.ctx (s.modelCtx m)).partSize) ∈ t.sched.badRanges)
      ∧ (s.modelState m = 5 → Completes (.modelStopComplete m retried repairs true) s fun t => t.modelState m = 1
          ∧ t.ctx (s.modelCtx m) = noCtx ∧ ∃ l ∈ t.sched.loads, l.model = m))

/-! ## The codec (chapter 07) -/

/-- SQUEEZE and EXPAND (R202, R213, R215, R226): on a set of one core that gets an engine at once the stream runs and the command
completes; where no engine is free every core of the set waits for one, which ENGINE_WAITS counts; ENGINE_GRANT runs the oldest
waiting request. -/
def Obligations.StreamCommandsComplete : Prop :=
  ∀ s : State, FreshIds s → CountersBounded s →
    (∀ (d : Dispatch) (sq : Bool), d.env.Healthy →
      let desc := force (force d.desc 7 0 6) 99 96 (if sq then 2 else 3)
      let cores := s.coresOf d.ctx desc
      let slot := if binds desc.toNat then s.activeSlot (Mv.gen desc.toNat) else none
      StreamReady s d desc → ¬ FrozenEntry s d desc →
        (∀ core, cores = [core] → 1 ≤ s.enginesFree sq →
          let b := coreBegun s d desc
          let f := Flight.mk (coreId s d desc) .cores .normal d.ctx (addrsOf s d desc) d.hdr desc (s.take d desc).2.list [core] []
            false s.time []
          let c := b.addFlight f
          let run := State.streamOnCore
            { c with codec := { c.codec with refs := c.codec.refs ++ (slot.map fun k => (f.id, k)).toList } } f core 0
          Completes (if sq then .squeeze d else .expand d) s fun t =>
            Sends (taken s d desc) t (finals (addrsOf s d desc) (firstStatus run.2))
              ∧ (Unmerged s d desc → t.mem = run.1.mem ∧ t.ue = run.1.ue))
        ∧ (s.enginesFree sq = 0 → Completes (if sq then .squeeze d else .expand d) s fun t =>
            Sends (taken s d desc) t [] ∧ (Clean s d → t.mem = s.mem) ∧ Rises s t 0x8035 0x0D cores.length
              ∧ (t.engineQueue sq).length = (s.engineQueue sq).length + cores.length
              ∧ (∀ q ∈ (t.engineQueue sq).drop (s.engineQueue sq).length, q.flight = s.sched.nextId ∧ q.core ∈ cores)))
    ∧ (∀ (sq : Bool) (q : EngineReq) (rest : List EngineReq) (f : Flight), s.engineQueue sq = q :: rest →
      s.flight q.flight = some f → (∀ a ∈ f.addrs, a.merged = false) → Completes (.engineGrant sq) s fun t =>
        t.mem = ((s.setEngineQueue sq rest).streamOnCore f q.core q.pos).1.mem ∧ (∀ x ∈ t.engineQueue sq, x ∈ rest)
        ∧ ∀ g, t.flight q.flight = some g → q.core ∉ g.cores)

/-- TABLE_LOAD makes its generation ACTIVE in a free slot, or waits; TABLE_RETIRE ends a generation; a slot that becomes free
goes to the waiting LOAD (R219-R223). -/
def Obligations.TableCommandsComplete : Prop :=
  ∀ s : State, CountersBounded s → Canonical s → FreshIds s →
    (∀ d : Dispatch, CleanMemory s d →
      let desc := force d.desc 1 0 1
      let a := engineStart s d desc .codec
      let f := Flight.mk a.sched.nextId .codec .normal d.ctx (addrsOf s d desc) d.hdr desc (s.take d desc).2.list [] [] false a.time []
      let img := ((a.addFlight f).tableImage f).1
      EngineReady s d desc .codec (fun _ => tableCmdOk desc.toNat) → s.tableBusy d.ctx = false →
        (∀ k, s.freeSlot = some k → s.codec.waiting = [] → tableOk img = true → Completes (.tableLoad d) s fun t =>
          t.activeSlot (Tab.gen desc.toNat) = some k ∧ (nth {} t.codec.slots k).image = img
          ∧ Sends (taken s d desc) t (finals (addrsOf s d desc) .done))
        ∧ (s.freeSlot.isSome = true → s.codec.waiting = [] → tableOk img = false → Completes (.tableLoad d) s fun t =>
          Sends (taken s d desc) t (finals (addrsOf s d desc) .descriptorInvalid))
        ∧ (s.freeSlot = none ∨ s.codec.waiting ≠ [] → Completes (.tableLoad d) s fun t =>
          Sends (taken s d desc) t (finals (addrsOf s d desc) .tableWait)
          ∧ t.codec.waiting = s.codec.waiting ++ [s.sched.nextId] ∧ t.codec.slots = s.codec.slots ∧ Rises s t 0x8035 8 1))
    ∧ (∀ d : Dispatch,
      let desc := force d.desc 1 0 2
      EngineReady s d desc .codec (fun _ => tableCmdOk desc.toNat) → s.tableBusy d.ctx = false →
        Completes (.tableRetire d) s fun t => t.activeSlot (Tab.gen desc.toNat) = none
          ∧ Sends (taken s d desc) t (finals (addrsOf s d desc) .done) ∧ (Unmerged s d desc → t.mem = s.mem))
    ∧ (∀ (k : Nat) (f : Flight), s.freeSlot = some k → s.slotWinner = some f → tableOk (s.tableImage f).1 = true → NoErrors s →
      (s.ctx f.ctx).lostPending = false → Completes .tableLoadSlotTaken s fun t =>
        t.activeSlot (Tab.gen f.desc.toNat) = some k ∧ f.id ∉ t.codec.waiting)

/-! ## Collectives (chapter 12) -/

/-- ALL_REDUCE, BROADCAST and ALL_GATHER (R369, R370): a collective whose turn it is runs; once its data is in place, it has its final
completion and NEXT_COLL_ID has risen. -/
def Obligations.CollectivesComplete : Prop :=
  ∀ (s : State) (d : Dispatch) (op : Nat), Canonical s → FreshIds s → 1 ≤ op → op ≤ 3 →
    let desc := collDesc d op
    EngineReady s d desc .fabric (fun s => s.collOk d.ctx desc.toNat) → ¬ FrozenEntry s d desc → s.writesPending d.ctx = false →
    s.noCollective = true → s.fab.coll = none → s.fab.early = [] → Co.id desc.toNat = s.nextColl →
      Completes (if op = 1 then .allReduce d else if op = 2 then .broadcast d else .allGather d) s fun t =>
        (∃ x, t.fab.coll = some x ∧ x.flight = s.sched.nextId ∧ x.id = Co.id desc.toNat ∧ x.op = op ∧ x.ended = none
          ∧ (∃ f ∈ t.sched.flights, f.id = s.sched.nextId) ∧ t.nextColl = s.nextColl ∧ Sends (taken s d desc) t [])
        ∨ (∃ st, t.fab.coll = none ∧ (∀ f ∈ t.sched.flights, f.id ≠ s.sched.nextId)
          ∧ t.nextColl = (s.nextColl + 1) % 2 ^ 32 ∧ Sends (taken s d desc) t (finals (addrsOf s d desc) st))

/-- Messages of a collective (R370, R371): those of one that is over are dropped, those of one that has not started are kept; a
COLL_HEAD that differs, and COLL_ABORT, end the running one with DESCRIPTOR_INVALID. -/
def Obligations.CollectiveMessagesComplete : Prop :=
  ∀ (s : State) (role chunk id off flags : Nat) (bs : List Byte), Canonical s → CountersBounded s →
    let head : CollMsg := ⟨role, 0x20, 0, 0, id, 0, bs⟩
    let abort : CollMsg := ⟨role, 0x24, 0, 0, id, 0, bs⟩
    let msgs : List (Instr × CollMsg) := [(.collHead role id bs, head),
      (.collExp role chunk id off flags bs, ⟨role, 0x21, flags % 2, chunk, id, off, bs⟩),
      (.collSum role chunk id off flags bs, ⟨role, 0x22, flags % 2, chunk, id, off, bs⟩),
      (.collData role chunk id off flags bs, ⟨role, 0x23, flags % 2, chunk, id, off, bs⟩),
      (.collAbort role id bs, abort)]
    (∀ p ∈ msgs, Delivered s p.2 →
      (s.fab.coll = none → s.fab.early = [] → s.noCollective = true → s.nextColl ≤ id →
        Completes p.1 s fun t => t = { s with fab := { s.fab with early := [p.2] } })
      ∧ (s.fab.coll = none → id < s.nextColl → Completes p.1 s fun t => t = s.takeMsg role p.2.msg)
      ∧ (∀ x : Coll, s.fab.coll = some x → id < x.id → Completes p.1 s fun t => t = s.takeMsg role p.2.msg)
      ∧ (∀ x : Coll, s.fab.coll = some x → x.id ≤ id → Completes p.1 s fun t =>
          t = State.collDrive { s with fab := { s.fab with early := s.fab.early ++ [p.2] } }))
    ∧ (∀ p ∈ msgs, ¬ Delivered s p.2 → Completes p.1 s fun t => t = s)
    ∧ (∀ (x : Coll) (f : Flight), s.fab.coll = some x → x.id = id → x.ended = none → x.complete = false → s.fab.early = [] →
      s.flight x.flight = some f → f.kind = .normal → f.found = [] → x.got.contains [2] = false →
      (∀ g ∈ s.sched.flights, g.engine = .fabric → g.id = f.id) →
        (bs ≠ x.head → Delivered s head → Completes (.collHead role id bs) s fun t => t.fab.coll = none ∧ Rises s t 0x803A 7 1
          ∧ t.nextColl = (s.nextColl + 1) % 2 ^ 32 ∧ Sends s t (finals f.addrs .descriptorInvalid))
        ∧ (Delivered s abort → Completes (.collAbort role id bs) s fun t => t.fab.coll = none
          ∧ t.nextColl = (s.nextColl + 1) % 2 ^ 32 ∧ Sends s t (finals f.addrs .descriptorInvalid)))

/-! ## The Planer (chapter 06) -/

/-- PACK runs to its end and changes its outputs only (R168, R177); an UPDATE of an unpaired device opens its job, one of a paired
device waits for the partner's JOB_START (R182, R188). -/
def Obligations.PlanerJobsComplete : Prop :=
  ∀ (s : State) (d : Dispatch), Canonical s → FreshIds s → CleanMemory s d → s.planerDown = false → s.plan.frozen = [] →
    PlanerIdle s → s.plan.halves.length = 2 →
    (let desc := force d.desc 5 4 0
      let n := desc.toNat
      let step := s.get 0x4321 (d.ctx + 1)
      EngineReady s d desc .planer (fun s => s.jobOk d.ctx n) → s.frozen d.ctx (Pj.layer n) = false → d.env.hang = [] →
        Completes (.pack d) s fun t => Sends (taken s d desc) t (finals (addrsOf s d desc) .done) ∧ PlanerIdle t
          ∧ t.get 0x4321 (d.ctx + 1) = (if Pj.last n then (step + 1) % 2 ^ 32 else step)
          ∧ ∀ a, (∀ i < Pj.e n + Pj.blocks n, a ≠ s.partAddr d.ctx (Pj.grad n + i)
              ∧ a ≠ s.partAddr d.ctx (kerfBuf n ((step + 1) % 2) + i)) → memRd t.mem a = memRd s.mem a)
    ∧ ∀ ortho : Bool,
      let desc := force (force d.desc 5 4 1) 7 6 (if ortho then 0 else 1)
      let n := desc.toNat
      let step := s.get 0x4321 (d.ctx + 1)
      let job (ph : JobPhase) : Job :=
        { flight := s.sched.nextId, ctx := d.ctx, desc := desc, step := step, coef := s.readCoefs (Pj.coef n), phase := ph,
          next := [0, 1], home := [0, 1], found := [], env := d.env }
      EngineReady s d desc .planer (fun s => s.jobOk d.ctx n) → s.frozen d.ctx (Pj.layer n) = false →
      s.records d.ctx (Pj.job n) step 0 = [] → s.records d.ctx (Pj.job n) step 1 = [] → s.plan.drifted = [] →
      s.plan.stopped = [] →
        (s.paired = false → s.gradNan d.ctx n = false →
          Completes (if ortho then .orthoUpdate d else .moment2Update d) s fun t => t.plan.job = some (job .moments)
            ∧ (∀ h < 2, ∃ r ∈ (t.half h).buffer, Jr.state r = 1 ∧ Jr.half r = h ∧ Jr.job r = Pj.job n) ∧ t.mem = s.mem
            ∧ Sends (taken s d desc) t [])
        ∧ (s.paired = true → s.plan.partnerStart = none →
          Completes (if ortho then .orthoUpdate d else .moment2Update d) s fun t => t.plan.job = some (job .awaitPartner)
            ∧ t.mem = s.mem ∧ Sends (taken s d desc) t [])

/-- Slabs (R179, R180, R195): the computation of a slab stages it with its checksum, and the copy home advances the half,
frees the slot and writes the digest entry; the journal drains. -/
def Obligations.SlabCommandsComplete : Prop :=
  ∀ s : State, Canonical s → CountersBounded s → s.plan.halves.length = 2 →
    (∀ (h : Nat) (j : Job), h < 2 → s.plan.job = some j → (j.phase = .moments ∨ j.phase = .weights) → s.retaining = false →
      j.next.length = 2 → j.home.length = 2 → NoErrors s →
      (let k := nth 0 j.next h;
        k % 2 = h → nth 0 j.home h ≤ k → k < Pj.slabs j.desc.toNat → (s.half h).staged.length < 64 → s.plan.repairing = [] → s.stagedOf k = none →
        s.paired = false → (s.ctx j.ctx).lostPending = false →
          Completes (.slabStaged h [] []) s fun t =>
            t.stagedOf k = some
              { k := k, sum := slabSum (s.slabBytes j j.sweep k), agreed := true, unpaired := true, fetch := false,
                code := none }
            ∧ (t.plan.job.map fun x => nth 0 x.next h) = some (k + 2))
      ∧ (let k := nth 0 j.home h;
        ∀ x : Staged, k % 2 = h → s.stagedOf k = some x → x.agreed = true → x.fetch = false → x.code = none →
        slabSum (s.stagedBytes j.desc.toNat j.sweep k) = x.sum → k + 2 < Pj.slabs j.desc.toNat → 8 ≤ (s.ctx j.ctx).partSize →
          Completes (.slabHome h) s fun t => (t.plan.job.map fun x => nth 0 x.home h) = some (k + 2) ∧ t.stagedOf k = none
            ∧ t.digestAt j.ctx j.desc.toNat j.sweep k = x.sum ∧ Rises s t 0x8034 1 1))
    ∧ (let all := s.plan.ring ++ s.plan.halves.flatMap (·.buffer);
        Completes .journalDrain s fun t => t.plan.ring = keepRing all all ∧ (∀ h ∈ t.plan.halves, h.buffer = []) ∧ t.mem = s.mem
          ∧ (∀ r ∈ t.plan.ring, r ∈ all) ∧ (∀ h < 2, (t.plan.ring.filter fun r => Jr.half r == h).length ≤ ringRecords)
          ∧ ((∀ h < 2, (all.filter fun r => Jr.half r == h).length ≤ ringRecords) → t.plan.ring = all))
    ∧ (∀ j : Job, s.plan.job = some j → j.phase = .retained → s.inS2 = true → NoErrors s → (s.ctx j.ctx).lostPending = false →
      (Pj.phase j.desc.toNat = 1 → (∀ h < 2, s.records j.ctx (Pj.job j.desc.toNat) j.step h = []) →
      s.gradNan j.ctx j.desc.toNat = false → Completes .planerResume s fun t =>
        (t.plan.job.map fun x => (x.phase, x.flight, x.step)) = some (.moments, j.flight, j.step) ∧ Rises s t 0x8034 0x0B 1)
      ∧ (∀ f : Flight, Pj.phase j.desc.toNat = 0 → s.flight j.flight = some f → f.kind = .normal → f.found = [] → j.found = [] →
        s.plan.queue = [] → Completes .planerResume s fun t =>
          PlanerIdle t ∧ Sends s t (finals f.addrs .done)))

/-- The protocol of a pair's jobs (R188, R189, R191, R197), message by message as the partner's stand delivered. -/
def Obligations.PartnerCommandsComplete : Prop :=
  ∀ s : State, Canonical s → CountersBounded s → s.plan.halves.length = 2 →
    (∀ start : List Byte, s.hasMsg 1 { type := 0x10, body := start } = true → s.paired = true → s.plan.queue = [] →
      (s.plan.job = none → Completes (.jobStart start) s fun t => t.plan = { s.plan with partnerStart := some start })
      ∧ (∀ j : Job, s.plan.job = some j → j.phase = .awaitPartner →
        (startBytes j ≠ start → Completes (.jobStart start) s fun t =>
          t.plan.job = none ∧ Rises s t 0x8034 0x0C 1 ∧ t.mem = s.mem)
        ∧ (startBytes j = start → NoErrors s → (s.ctx j.ctx).lostPending = false → s.gradNan j.ctx j.desc.toNat = false →
          (∀ h < 2, s.records j.ctx (Pj.job j.desc.toNat) j.step h = []) → Completes (.jobStart start) s fun t =>
            (t.plan.job.map fun x => (x.phase, x.flight)) = some (.moments, j.flight) ∧ t.plan.partnerStart = none ∧ t.mem = s.mem)))
    ∧ (∀ (r k : Nat) (again : List (Nat × Nat)), r < 2 ^ 256 → k = Jr.slab r → s.paired = true →
      s.hasMsg 1 { type := 0x11, body := leBytes 32 r } = true →
      (s.plan.job = none → Completes (.agree r again) s fun t =>
        (t.half (k % 2)).agrees = (s.half (k % 2)).agrees ++ [r] ∧ t.mem = s.mem)
      ∧ (∀ (j : Job) (x : Staged), s.plan.job = some j → (j.phase = .moments ∨ j.phase = .weights) → s.stagedOf k = some x →
        x.agreed = false → (s.half (k % 2)).agrees = [] → (s.half (k % 2)).arbit = none → Jr.ctx r = j.ctx →
        Jr.job r = Pj.job j.desc.toNat → Jr.step r = j.step → Jr.state r = stagedCode j.sweep →
          (Jr.sum r = x.sum → Completes (.agree r again) s fun t =>
            t.stagedOf k = some { x with agreed := true, unpaired := false, code := none } ∧ t.mem = s.mem)
          ∧ (Jr.sum r ≠ x.sum → Completes (.agree r again) s fun t => t.stagedOf k = some x ∧ t.mem = s.mem
            ∧ ((t.half (k % 2)).arbit.map fun a => (a.k, a.partnerSum, a.partner)) = some (k, Jr.sum r, none))))
    ∧ (∀ (j : Job) (k : Nat) (a : Arbit) (x : Staged), s.plan.job = some j → (s.half (k % 2)).arbit = some a → a.k = k →
      s.stagedOf k = some x →
      (∀ sum grad old, s.hasMsg 1 { type := 0x12, body := recheckBody k [sum, grad, old] } = true → a.partner = none →
        nth 0 a.own 0 = x.sum → sum ≠ a.partnerSum → Completes (.recheck k sum grad old) s fun t =>
          t.stagedOf k = some { x with agreed := true, code := some 1 } ∧ t.mem = s.mem)
      ∧ (∀ pass, s.hasMsg 1 { type := 0x13, body := katBody k pass } = true → a.partner = none →
        Completes (.katResult k pass) s fun t =>
          (t.half (k % 2)).arbit = some { a with partnerKat := some pass } ∧ t.mem = s.mem)
      ∧ (∀ (h : Nat) (p : List Nat), h = k % 2 → a.partner = some p → a.ownKat = none → a.await = none →
        nth 0 a.own 0 = x.sum → nth 0 p 0 = a.partnerSum → s.digestAt j.ctx j.desc.toNat j.sweep k = 0 →
        nth 0 a.own 1 = nth 0 p 1 →
          (a.partnerKat = none → ∀ pass, Completes (.katDone h pass) s fun t =>
            (t.half h).arbit = some { a with ownKat := some pass } ∧ t.mem = s.mem)
          ∧ (a.partnerKat = some false → Completes (.katDone h true) s fun t =>
            t.stagedOf k = some { x with agreed := true, code := some 3 } ∧ t.mem = s.mem))
      ∧ (∀ (c : Nat) (bs : List Byte), s.hasMsg 1 { type := 0x14, body := xferBytes k j.sweep bs } = true → a.await = some c →
        slabSum bs = a.partnerSum → Completes (.slabXfer k j.sweep bs) s fun t =>
          t.stagedOf k = some { x with sum := slabSum bs, agreed := true, code := some c }))
    ∧ (∀ (j : Job) (k : Nat) (x : Staged) (bs : List Byte), s.plan.job = some j → (s.half (k % 2)).arbit = none →
      s.stagedOf k = some x → x.fetch = true → slabSum bs = x.sum →
      s.hasMsg 1 { type := 0x14, body := xferBytes k j.sweep bs } = true → Completes (.slabXfer k j.sweep bs) s fun t =>
        t.stagedOf k = some { x with fetch := false } ∧ Rises s t 0x8034 7 1
          ∧ (j.ctx, Pj.job j.desc.toNat) ∈ t.plan.repaired)
    ∧ (∀ (c job k sweep d : Nat), s.hasMsg 1 { type := 0x15, body := fetchBody ⟨c, job, k, sweep⟩ } = true → s.paired = true →
      s.plan.job = none → s.knownJob c job = some d →
      (slabSum (s.homeBytes c d sweep k) = s.digestAt c d sweep k → Completes (.driftFetch c job k sweep) s fun t =>
        t.plan = s.plan ∧ t.mem = s.mem)
      ∧ (slabSum (s.homeBytes c d sweep k) ≠ s.digestAt c d sweep k → Completes (.driftFetch c job k sweep) s fun t =>
        ⟨c, job, k, sweep⟩ ∈ t.plan.drifted ∧ t.mem = s.mem))

/-! ## The intake (chapter 09) -/

/-- BATCH claims its samples (R296); DICT_LOAD, DICT_UNLOAD and DETOK do what R277, R278 and R282 give them. -/
def Obligations.IntakeCommandsComplete : Prop :=
  ∀ (s : State) (d : Dispatch), Canonical s → FreshIds s → CleanMemory s d → smWf ({} : IStream) s.intake.streams = true →
    (let desc := force d.desc 3 0 1
      let k := Bat.stream desc.toNat
      EngineReady s d desc .intake (fun s => s.batchOk d.ctx desc.toNat) → Completes (.batch d) s fun t =>
        (t.istream k).claim = (s.istream k).claim + Bat.n desc.toNat
        ∧ ((∀ n, (s.verdict k n).bind Verdict.over = none) →
          t.intake.batches = s.intake.batches ++ [⟨s.sched.nextId, k, (s.istream k).claim, Bat.n desc.toNat, []⟩]
          ∧ (∃ f ∈ t.sched.flights, f.id = s.sched.nextId) ∧ Sends (taken s d desc) t [] ∧ t.mem = s.mem))
    ∧ (let desc := force d.desc 3 0 2
      let n := desc.toNat
      let img := s.dictImage d.ctx (Dc.image n)
      EngineReady s d desc .intake (fun s => s.dictLoadOk n && !s.dictLost d n) → s.intake.dicts.length = 4 →
      Completes (.dictLoad d) s fun t =>
        (dictOk img = true → t.dict (Dc.slot n) = ⟨true, d.ctx, Dic.count img, Dc.image n⟩
          ∧ Sends (taken s d desc) t (finals (addrsOf s d desc) .done))
        ∧ (dictOk img = false → t.intake = s.intake ∧ Sends (taken s d desc) t (finals (addrsOf s d desc) .descriptorInvalid)))
    ∧ (let desc := force d.desc 3 0 3
      let n := desc.toNat
      EngineReady s d desc .intake (fun s => fld n 511 6 == 0 && s.dictMine d.ctx (Dc.slot n) && !s.dictInUse d.ctx (Dc.slot n)) →
      Completes (.dictUnload d) s fun t => t.dict (Dc.slot n) = {} ∧ Sends (taken s d desc) t (finals (addrsOf s d desc) .done)
        ∧ t.mem = s.mem)
    ∧ (let desc := force d.desc 3 0 4
      let n := desc.toNat
      let toks := (List.range (Dc.count n)).map fun i => leAt (s.partRead d.ctx (Dc.image n) (4 * Dc.count n)) (4 * i) 4
      let r := detokenize (s.dictImage d.ctx (s.dict (Dc.slot n)).image) (Dc.dstBytes n) toks [] 0 0
      EngineReady s d desc .intake (fun s => fld n 511 190 == 0 && s.dictMine d.ctx (Dc.slot n)) → 16 ≤ (s.ctx d.ctx).partSize →
      Completes (.detok d) s fun t => Sends (taken s d desc) t (finals (addrsOf s d desc) .done)
        ∧ t.partRead d.ctx (Dc.result n) 16 = leBytes 4 r.1.length ++ leBytes 4 r.2.1 ++ leBytes 4 r.2.2 ++ leBytes 4 0)

/-- Samples are numbered as they arrive (R272); a claimed one is resolved into its slot or a hole, and counted (R295, R297); host
data of a stream that the open site feeds is discarded (R274); a stop ends (R270, R271). -/
def Obligations.SampleCommandsComplete : Prop :=
  ∀ (s : State) (k : Nat), Canonical s → CountersBounded s → smWf ({} : IStream) s.intake.streams = true → k < 128 →
    (∀ (hdr : Nat) (data : List Byte),
      let x := s.istream k
      let raorn := Ic.raorn (s.intakeCfg k)
      data.length = fld hdr 31 0 → (s.strm raorn).hearsAt 4 x.waiting (leBytes 8 hdr ++ data) = true →
      (s.siteBound raorn = false → s.intakeState k = 1 → Completes (.sample k hdr data) s fun t =>
        (t.istream k).arrived = x.arrived + 1
        ∧ ((∀ n, s.batchOf k n = none) → x.claim ≤ x.arrived →
          (t.istream k).samples = x.samples ++ [⟨x.arrived, hdr, data, false, false⟩] ∧ t.mem = s.mem))
      ∧ (s.siteBound raorn = true → Completes (.sample k hdr data) s fun t =>
        t.intake = s.intake ∧ Rises s t 0x8037 0x0B data.length ∧ t.mem = s.mem))
    ∧ (∀ (n : Nat) (b : Batch) (f : Flight), s.batchOf k n = some b → s.flight b.flight = some f →
      (n ∉ (s.istream k).roiWait →
        (∀ st reason, s.verdict k n = some (.hole st reason) → Completes (.sampleResolved k n) s fun t =>
          Rises s t 0x8037 (outcomeCounter st) 1)
        ∧ (∀ reason count bs, s.verdict k n = some (.slot reason count bs) → Completes (.sampleResolved k n) s fun t =>
          Rises s t 0x8037 1 1)
        ∧ (∀ m, s.verdict k n = some (.picture m) → Ic.roiMode (s.intakeCfg b.stream) = 0 →
          Completes (.sampleResolved k n) s fun t => Rises s t 0x8037 1 1))
      ∧ (s.retaining = false → Ic.timeBudget (s.intakeCfg k) ≠ 0 → s.firstByteIn k n = true →
        Completes (.timeBudget k n) s fun t => Rises s t 0x8037 5 1)
      ∧ (∀ m, n ∈ (s.istream k).roiWait → s.verdict k n = some (.picture m) → NoErrors s → n ≠ 0 →
        (∀ ch, s.roiChoice (s.intakeCfg b.stream) n = some ch → Completes (.roiReread k n) s fun t => Rises s t 0x8037 1 1)
        ∧ (s.roiChoice (s.intakeCfg b.stream) n = none → Completes (.roiReread k n) s fun t =>
          n ∈ (t.istream k).roiWait ∧ t.intake.batches = s.intake.batches)))
    ∧ (s.intakeState k = 2 → Completes (.intakeStopComplete k) s fun t => t.intakeState k = 0)
    ∧ (s.intakeState k = 3 → Completes (.intakeStopComplete k) s fun t =>
        t.intakeState k = if s.enableReason k = 0 then 1 else 4)

/-! ## The host port (chapter 11) -/

/-- Raorn: packets in order are delivered, those ahead are held, duplicates, malformed ones and what lies outside the window are
counted, acknowledgements free packets, streams open, close and reset, timers send again (R339, R341-R348). -/
def Obligations.RaornCommandsComplete : Prop :=
  ∀ s : State, Canonical s → CountersBounded s → StreamsOk s →
    (∀ k : Packet, s.linked = true → packetBad k = true → ∀ i ∈ [Instr.data k, .ack k, .close k, .reset k, .open k],
      Completes i s fun t => t = s.bump 0x8039 6 1)
    ∧ (∀ k : Packet,
      let x := s.strm k.stream
      let held := x.rxHeld.any fun h => h.1 == k.seq
      PacketHeard s k → x.wasReset = false →
        (k.type = 1 →
          (x.tx.unacked = [] → seqLt k.seq x.rxNext = false → held = false → x.beyond k = false → x.closeAt = none →
            (k.seq = x.rxNext → x.rxHeld = [] → Completes (.data k) s fun t =>
              (t.strm k.stream).rxBytes = x.rxBytes ++ k.payload ∧ (t.strm k.stream).rxNext = seqNext x.rxNext
                ∧ (t.strm k.stream).rxTotal = x.rxTotal + k.payload.length)
            ∧ (k.seq ≠ x.rxNext → (∀ h ∈ x.rxHeld, h.1 ≠ x.rxNext) → Completes (.data k) s fun t =>
              (t.strm k.stream).rxBytes = x.rxBytes ∧ (t.strm k.stream).rxNext = x.rxNext
                ∧ (t.strm k.stream).rxHeld = x.rxHeld ++ [(k.seq, k.payload)]))
          ∧ (seqLt k.seq x.rxNext = true ∨ held = true → Completes (.data k) s fun t =>
              (t.strm k.stream).rxBytes = x.rxBytes ∧ (t.strm k.stream).rxNext = x.rxNext ∧ Rises s t 0x8039 0x0A 1)
          ∧ (seqLt k.seq x.rxNext = false → held = false → x.beyond k = true → Completes (.data k) s fun t =>
              (t.strm k.stream).rxBytes = x.rxBytes ∧ (t.strm k.stream).rxNext = x.rxNext ∧ Rises s t 0x8039 0x0B 1))
        ∧ (k.type = 2 → Completes (.ack k) s fun t => (∀ p ∈ (t.strm k.stream).tx.unacked, seqLt p.seq k.ack = false)
            ∧ (t.strm k.stream).tx.peerWindow = k.window * 4096 ∧ (t.strm k.stream).rxBytes = x.rxBytes)
        ∧ (k.type = 5 → x.phase = .opened → Completes (.close k) s fun t => (t.strm k.stream).phase = .stopping)
        ∧ (k.type = 6 → x.phase = .opened → Completes (.reset k) s fun t => (t.strm k.stream).phase = .stopping
            ∧ (t.strm k.stream).wasReset = true ∧ (t.strm k.stream).rxHeld = [] ∧ (t.strm k.stream).tx.bytes = []
            ∧ (t.strm k.stream).tx.unacked = [] ∧ Rises s t 0x8039 0x0F 1))
    ∧ (∀ (k : Packet) (r : OpenReq), s.linked = true → packetBad k = false → k.type = 3 → (s.strm k.stream).phase = .closed →
      openReq k = some r →
        (s.openResult r k.addr k.port = 0 → Completes (.open k) s fun t => (t.strm k.stream).phase = .opened
          ∧ (t.strm k.stream).req = r ∧ (t.strm k.stream).addr = k.addr ∧ (t.strm k.stream).port = k.port
          ∧ (t.strm k.stream).rxNext = seqNext r.seq ∧ (t.strm k.stream).tx.peerWindow = k.window * 4096)
        ∧ (s.openResult r k.addr k.port ≠ 0 → Completes (.open k) s fun t => (t.strm k.stream).phase = .closed))
    ∧ (∀ n, (s.strm n).phase = .stopping →
      ((s.strm n).wasReset = true ∨ ((s.strm n).closeIn = true ∧ (s.strm n).sentClose = true ∧ (s.strm n).tx.unacked = [])) →
      Completes (.streamStopComplete n) s fun t => t.strm n = {})
    ∧ (∀ n, s.linked = true → (s.strm n).ackDue = true → s.unserved n = false → Completes (.raornAckTimer n) s fun t =>
        (t.strm n).ackDue = false ∧ (t.strm n).rxBytes = (s.strm n).rxBytes)
    ∧ (∀ (n : Nat) (p : TxPkt),
      let x := s.strm n
      let paused := smGet 0 s.net.paused (s.pcpOf x.req.cls)
      (x.tx.unacked.find? fun p => !p.sacked) = some p → s.linked = true → x.phase ≠ .closed → x.wasReset = false →
      s.unserved n = false →
        (p.sends < s.get 0x3010 6 → Completes (.rtoExpiry n) s fun t => (t.strm n).tx.cwnd = 65536
          ∧ (t.strm n).tx.ssthresh = max 131072 (x.tx.cwnd / 2) ∧ Rises s t 0x8039 0x0C 1
          ∧ (paused = 0 → x.tx.again = [] → (∀ e ∈ s.net.streams, e.1 ≠ n → s.txReady e.1 e.2 = false) → Rises s t 0x8039 8 1)
          ∧ (paused ≠ 0 → (t.strm n).tx.again = x.tx.again ++ [p.seq]))
        ∧ (s.get 0x3010 6 ≤ p.sends → Completes (.rtoExpiry n) s fun t => (t.strm n).wasReset = true
          ∧ (t.strm n).tx.unacked = []))
    ∧ (let n := arbWinner s.net.txPtr s.txAsks
      let x := (s.strm n).tx
      s.linked = true → s.txAsks ≠ [] → Completes .transmit s fun t =>
        (x.again = [] → (t.strm n).tx.unacked.length = x.unacked.length + 1 ∧ (t.strm n).tx.nextSeq = seqNext x.nextSeq)
        ∧ (∀ q rest, x.again = q :: rest → (t.strm n).tx.again = rest ∧ (t.strm n).tx.unacked.length = x.unacked.length)
        ∧ t.net.txPtr = if 2 ≤ s.txAsks.length then (n + 1) % 16384 else s.net.txPtr)

/-- DATA messages (R308, R351, R534): WRITE stores, READ answers, IMAGE makes its model RESIDENT, the others are refused. -/
def Obligations.DataMessagesComplete : Prop :=
  ∀ (s : State) (q : DataReq), Canonical s → StreamsOk s →
    (DataHeard s 1 q true → s.rangeReason q = 0 → NoErrors s → Completes (.dataWrite q) s fun t =>
      (∀ i < q.len, memRd t.mem (s.partAddr q.ctx (q.off + i)) = q.body.getD i 0#8)
      ∧ (∀ a, (∀ i < q.len, a ≠ s.partAddr q.ctx (q.off + i)) → memRd t.mem a = memRd s.mem a)
      ∧ outgoing t q.stream = outgoing s q.stream ++ dataHeader 2 0 0 0 q.tag 0 0)
    ∧ (DataHeard s 3 q false → s.rangeReason q = 0 → NoErrors s → Completes (.dataRead q) s fun t => t.mem = s.mem
      ∧ outgoing t q.stream = outgoing s q.stream ++ (dataHeader 4 0 0 0 q.tag 0 q.len ++ pad8 (s.partRead q.ctx q.off q.len)))
    ∧ (s.rangeReason q ≠ 0 → ∀ p ∈ [(Instr.dataWrite q, 1, true), (.dataRead q, 3, false)], DataHeard s p.2.1 q p.2.2 →
      Completes p.1 s fun t => t.mem = s.mem
        ∧ outgoing t q.stream = outgoing s q.stream ++ dataHeader 7 0 0 (s.rangeReason q) q.tag 0 0)
    ∧ (DataHeard s 6 q true → q.ctx = 0 → q.reason = 0 → q.off = 0 → q.model < 255 → s.modelState q.model = 2 →
      Rec.sourceStream (s.record q.model) = q.stream → q.len = Rec.imageBytes (s.record q.model) → s.modelCtx q.model < 64 →
      s.sched.ctxs.length = 64 → Completes (.image q) s fun t => t.modelState q.model = 3
        ∧ (t.ctx (s.modelCtx q.model)).phase = .ready)
    ∧ (∀ op, op = 2 ∨ op = 4 ∨ op = 5 ∨ op = 7 → DataHeard s op q (op == 4) → Completes (.deviceOpFromHost op q) s fun t =>
      t.mem = s.mem ∧ outgoing t q.stream = outgoing s q.stream ++ dataHeader 7 0 0 4 q.tag 0 0)
    ∧ (∀ op, op = 0 ∨ 8 ≤ op → op < 256 → DataHeard s op q false → Completes (.reservedDataOp op q) s fun t =>
        (t.strm q.stream).wasReset = true ∧ ((s.strm q.stream).phase = .opened → (t.strm q.stream).phase = .stopping))

/-- Frames, neighbours, priority flow control, the link (R332, R333, R335, R337). -/
def Obligations.EthernetCommandsComplete : Prop :=
  ∀ s : State, Canonical s → CountersBounded s → smWf 0 s.net.paused = true →
    (∀ f, s.linked = true →
      (frameFcsOk f = false → Completes (.filteredFrame f) s fun t => t = s.bump 0x8039 2 1)
      ∧ (frameFcsOk f = true → s.filtered f = true → Completes (.filteredFrame f) s fun t => t = s.bump 0x8039 3 1))
    ∧ (s.linked = true → smGet 0 s.net.paused 0 = 0 →
      (∀ src mac, src ≠ 0 → mac ≠ 0 → Completes (.neighborSolicitation src mac s.ipv6) s fun t =>
        (src, mac) ∈ t.net.neigh ∧ s.net.wire.length < t.net.wire.length)
      ∧ (∀ mac, Completes (.neighborSolicitation 0 mac s.ipv6) s fun t =>
        t.net.wire.length = s.net.wire.length + 1 ∧ t.net.neigh = s.net.neigh)
      ∧ (∀ src dst ident seq data, (∃ n ∈ s.net.neigh, n.1 = src) → s.takesDst (leBytes 16 dst) = true →
        Completes (.echoRequest src dst ident seq data) s fun t => ∃ bs, t.net.wire = s.net.wire ++ [⟨.frame, bs⟩]))
    ∧ (∀ src dst ident seq data, s.linked = true → s.takesDst (leBytes 16 dst) = false →
      Completes (.echoRequest src dst ident seq data) s fun t => t = s.bump 0x8039 3 1)
    ∧ (∀ src dst ident seq data, s.linked = true → s.takesDst (leBytes 16 dst) = true → smGet 0 s.net.paused 0 ≠ 0 →
      (∃ n ∈ s.net.neigh, n.1 = src) → Completes (.echoRequest src dst ident seq data) s fun t =>
        t.net.wire = s.net.wire ∧ ∃ bs, t.net.held = s.net.held ++ [(0, bs)])
    ∧ (∀ target mac sol ovr, s.linked = true → mac ≠ 0 → target ∈ s.net.soliciting →
      Completes (.neighborAdvertisement target mac sol ovr) s fun t => (target, mac) ∈ t.net.neigh
        ∧ target ∉ t.net.soliciting ∧ ∀ w ∈ t.net.waiting, w.1 ≠ target)
    ∧ (∀ mask times, s.linked = true → Completes (.pfc mask times) s fun t => Rises s t 0x8039 4 1
        ∧ ∀ p < 8, smGet 0 t.net.paused p = if bit mask p && bit (s.get 0x3005 1) p then nth 0 times p % 65536
            else smGet 0 s.net.paused p)
    ∧ (∀ p, Completes (.pfcPauseEnd p) s fun t =>
        let free (h : Nat × List Byte) : Bool := s.linked && smGet 0 t.net.paused h.1 == 0
        smGet 0 t.net.paused p = 0 ∧ t.net.held = (s.net.held.filter fun h => !free h)
          ∧ t.net.wire = s.net.wire ++ (s.net.held.filter free).map fun h => ⟨.frame, h.2⟩)
    ∧ (s.net.xoff = true → s.net.linkUp = true → Completes .pfcRefresh s fun t => Rises s t 0x8039 5 1
        ∧ t.net.wire.length = s.net.wire.length + 1)
    ∧ (s.net.linkUp = true → Completes .linkDown s fun t => t.net.linkUp = false ∧ t.get 0x3001 1 = 0
        ∧ Rises s t 0x8039 1 1 ∧ t.net.streams = s.net.streams)
    ∧ (s.net.linkUp = false → s.pkg.resetHeld = false → s.pkg.booted = true → bit (s.get 0x2203 7) 0 = false →
      s.dieState 13 ≠ 5 → s.dieState 13 ≠ 4 → Completes .linkUp s fun t => t.net.linkUp = true
        ∧ t.get 0x3001 1 = (if s.net.wantFull && s.inS2 then 2 else 1) ∧ t.net.streams = s.net.streams)
    ∧ (s.inS2 = true → s.net.linkUp = false → s.net.wantFull = true → Completes .portFallback s fun t =>
        t.get 0x3001 1 = 3 ∧ t.get 0x3001 2 = 1 ∧ t.net.wantFull = false)

/-! ## The open site, Tenon links, Dovetail ports (chapters 01 and 12) -/

/-- Open-site messages, Tenon flits and the retry rate (R22, R25, R26, R45-R49, R472). -/
def Obligations.SiteAndTenonCommandsComplete : Prop :=
  ∀ s : State, Canonical s → CountersBounded s → smWf ({} : SiteCh) s.pkg.site = true → smWf ({} : Tenon) s.pkg.links = true →
    smWf ({} : TenonPath) s.pkg.paths = true →
    (s.siteLive = true →
      (∀ (hdr : Nat) (payload : List Byte),
        let ch := Os.channel hdr
        Os.kind hdr ≠ 1 → Os.kind hdr ≠ 2 →
          (s.siteHdrOk hdr payload = true → cdiv payload.length 256 ≤ (s.siteCh ch).inCredits →
            Completes (.openSiteData hdr payload) s fun t => (t.siteCh ch).sample = (s.siteCh ch).sample ++ payload
              ∧ (t.siteCh ch).opened = true ∧ (t.siteCh ch).seq = some ((Os.seq hdr + 1) % 65536))
          ∧ (s.siteHdrOk hdr payload = true → (s.siteCh ch).inCredits < cdiv payload.length 256 →
            Completes (.openSiteData hdr payload) s fun t => (t.siteCh ch).sample = (s.siteCh ch).sample ∧ Rises s t 0x8020 1 1)
          ∧ (s.siteHdrOk hdr payload = false → Completes (.openSiteData hdr payload) s fun t => t = s.bump 0x8020 2 1))
      ∧ (∀ hdr : Nat, s.siteHdrOk (setFld hdr 31 28 1) [] = true → Completes (.openSiteEndOfSample hdr) s fun t =>
          (t.siteCh (Os.channel (setFld hdr 31 28 1))).opened = false)
      ∧ (∀ hdr : Nat, s.siteHdrOk (setFld hdr 31 28 2) [] = true →
          let ch := Os.channel (setFld hdr 31 28 2)
          let x := s.siteCh ch
          let n := x.outBytes.length
          let credits := x.outCredits + Os.arg (setFld hdr 31 28 2)
          (n = 0 → Completes (.openSiteCredit hdr) s fun t => (t.siteCh ch).outCredits = credits ∧ t.net.wire = s.net.wire)
          ∧ (0 < n → n ≤ 4096 → cdiv n 256 ≤ credits → Completes (.openSiteCredit hdr) s fun t =>
              (t.siteCh ch).outCredits = credits - cdiv n 256 ∧ (t.siteCh ch).outBytes = []
                ∧ t.net.wire = s.net.wire ++ [⟨.site ch, siteHdr x.outSeq n 0 ch 0 ++ x.outBytes⟩]))
      ∧ (Completes .openSiteLinkDown s fun t => t.get 0x1060 1 = 0 ∧ t.get 0x1060 2 = 0
          ∧ (∀ ch < 64, (t.siteCh ch).opened = false) ∧ ∀ ch < 64, t.siteBind ch = s.siteBind ch))
    ∧ (∀ (hop : TenonHop) (seq : Nat) (bytes : List Byte),
      let dir (s : State) : TenonDir := (s.tenon hop.link).dir hop.toB
      let path (s : State) : TenonPath := s.tenonPath hop.src hop.dst
      (s.flitComes hop seq = false → ∀ ok reply, Completes (.tenonFlit hop seq ok reply bytes) s fun t => t = s)
      ∧ (s.flitComes hop seq = true →
        (∀ reply, Completes (.tenonFlit hop seq false reply bytes) s fun t => dir t = dir s
          ∧ (path t).delivered = (path s).delivered ∧ Rises s t 0x8010 ((linkNums.takeWhile (· != hop.link)).length + 1) 1)
        ∧ (∀ reply, seq ≠ (dir s).rxSeq → Completes (.tenonFlit hop seq true reply bytes) s fun t => t = s)
        ∧ (∀ reply, seq = (dir s).rxSeq → linkTo hop.link hop.toB ≠ hop.dst →
          Completes (.tenonFlit hop seq true reply bytes) s fun t => (dir t).rxSeq = seq + 1
            ∧ (path t).delivered = (path s).delivered ∧ (path t).transit = (s.pathNow hop.src hop.dst).transit + 1)
        ∧ (∀ reply, seq = (dir s).rxSeq → linkTo hop.link hop.toB = hop.dst →
          (reply.any s.staleReply = false → Completes (.tenonFlit hop seq true reply bytes) s fun t =>
            (dir t).rxSeq = seq + 1 ∧ (path t).delivered = (path s).delivered ++ [bytes])
          ∧ (reply.any s.staleReply = true → Completes (.tenonFlit hop seq true reply bytes) s fun t =>
            (dir t).rxSeq = seq + 1 ∧ (path t).delivered = (path s).delivered ∧ Rises s t 0x803E 7 1))))
    ∧ (∀ link, s.inS2 = true → s.linkUp link = true →
      ((s.tenon link).eqDone = true → Completes (.retryRateExceeded link) s fun t => t.link link = 4 ∨ t.link link = 5)
      ∧ ((s.tenon link).eqDone = false → Completes (.retryRateExceeded link) s fun t => (t.tenon link).eqDone = true
        ∧ t.link link = s.link link))

/-- Dovetail ports (R357, R358, R360): training, retries, stops; a good flit in its place is accepted, a bad one is counted. -/
def Obligations.FabricCommandsComplete : Prop :=
  ∀ (s : State) (p : Nat), Canonical s → CountersBounded s → p < 6 → s.fab.ports.length = 6 →
    (∀ failed ns, s.portState p = 1 → bit (s.get 0x2203 (p + 1)) 0 = false →
      Completes (.portTrainingDone p failed ns) s fun t =>
        let n := ((List.range 8).filter fun i => bit failed i).length
        t.portState p = (if n = 0 then 2 else if n ≤ 4 then 3 else 4) ∧ t.dv p = if n ≤ 4 then freshPort else {})
    ∧ (s.inS2 = true → s.portState p = 4 → Completes (.portRetry p) s fun t =>
        t.portState p = if s.engineOut p then 4 else 1)
    ∧ (s.portState p = 5 → Completes (.portStopComplete p) s fun t => t.portState p = 0 ∧ t.dv p = {})
    ∧ (s.portState p = 6 → Completes (.portStopComplete p) s fun t => t.portState p = 1 ∧ t.dv p = {})
    ∧ (s.inS2 = true → s.portUp p = true →
      (∀ bs : List Byte, s.fab.pair.mirrorQ = [] →
        ((bs.length ≠ 256 ∨ crc64 (bs.take 248) ≠ beNat (bs.drop 248)) → Completes (.dvFlit p bs) s fun t =>
          Rises s t 0x803A 1 1 ∧ (t.dv p).nakSent = true ∧ (t.dv p).rxSeq = (s.dv p).rxSeq ∧ t.fab.inbox = s.fab.inbox)
        ∧ (bs.length = 256 → crc64 (bs.take 248) = beNat (bs.drop 248) →
          let h := beNat (bs.take 8)
          fld h 36 34 ≠ 0 → fld h 63 52 = (s.dv p).rxSeq → bit h 38 = false → Completes (.dvFlit p bs) s fun t =>
            (t.dv p).rxSeq = ((s.dv p).rxSeq + 1) % 4096 ∧ (t.dv p).nakSent = false))
      ∧ ((s.dv p).sinceAck ≠ 0 → Completes (.dvAckTimer p) s fun t => (t.dv p).sinceAck = 0
        ∧ t.net.wire.length = s.net.wire.length + 1)
      ∧ ((s.dv p).unacked ≠ [] → (s.dv p).replays < 15 → Completes (.dvReplayTimer p) s fun t =>
        (t.dv p).replays = (s.dv p).replays + 1 ∧ Rises s t 0x803A 2 1
        ∧ t.net.wire.length = s.net.wire.length + (s.dv p).unacked.length)
      ∧ ((s.dv p).unacked ≠ [] → 15 ≤ (s.dv p).replays → Completes (.dvReplayTimer p) s fun t =>
        t.portState p = if s.engineOut p then 4 else 1)
      ∧ ((s.dv p).eqDone = false → Completes (.dvReplayRateExceeded p) s fun t => (t.dv p).eqDone = true
        ∧ t.portState p = s.portState p)
      ∧ ((s.dv p).eqDone = true → Completes (.dvReplayRateExceeded p) s fun t =>
        t.portState p = if s.engineOut p then 4 else 1))

/-! ## The pair (chapter 12) -/

/-- The pair's commands (R380-R387), message by message as the partner's stand delivered. -/
def Obligations.PairCommandsComplete : Prop :=
  ∀ s : State, Canonical s → CountersBounded s →
    (s.paired = true → Completes .heartbeatSend s fun t => t.fab.pair.heartbeats = (s.fab.pair.heartbeats + 1) % 2 ^ 32
        ∧ t.mem = s.mem)
    ∧ (∀ n, s.hasMsg 1 { type := 1, id := n } = true →
      (s.paired = true → Completes (.heartbeat n) s fun t =>
        t = (s.takeMsg 1 { type := 1, id := n }).toPartner { type := 2, id := n })
      ∧ (s.paired = false → Completes (.heartbeat n) s fun t => t = s.takeMsg 1 { type := 1, id := n }))
    ∧ (∀ n, Completes (.heartbeatAck n) s fun t => t = s.takeMsg 1 { type := 2, id := n })
    ∧ (s.pairState = 2 → s.fab.pair.mirrorQ = [] → PlanerIdle s → Completes .failover s fun t => t.pairState = 3
        ∧ t.fab.pair.former = some (s.get 0x3112 1) ∧ Rises s t 0x803A 8 1)
    ∧ (s.pairState = 4 → Completes .failover s fun t => t.get 0x3111 1 = 3 + 7 * 256 ∧ Rises s t 0x803A 8 1
        ∧ Rises s t 0x803A 0x0D 1)
    ∧ (s.pairState = 5 → s.holders = [] → Completes .failover s fun t => t.get 0x3111 1 = 7 * 256 ∧ Rises s t 0x803A 8 1
        ∧ Rises s t 0x803A 0x0D 1)
    ∧ (∀ serial measurement control busy,
      let m : Msg := { type := 3, body := helloBody serial measurement control busy }
      s.hasMsg 1 m = true →
      (s.pairState = 1 →
        (s.helloReason serial measurement control busy = 0 → Completes (.pairHello serial measurement control busy) s fun t =>
          t.get 0x3112 1 = serial ∧ t.get 0x3112 2 = (if s.iodSerial < serial then 0 else 1)
          ∧ t.pairState = if s.pairControl = 1 then 2 else if s.pairControl = 2 then 4 else 5)
        ∧ (∀ r, s.helloReason serial measurement control busy = r → r ≠ 0 →
          Completes (.pairHello serial measurement control busy) s fun t =>
            t.get 0x3111 1 = (if s.fab.pair.fromSolo then 3 else 0) + r * 256))
      ∧ (s.pairState = 3 → s.fab.pair.former = some serial → s.pairControl ≠ 2 →
        Completes (.pairHello serial measurement control busy) s fun t => t.get 0x3111 1 = 3 + 6 * 256)
      ∧ (s.pairState = 0 → Completes (.pairHello serial measurement control busy) s fun t =>
          t.fab.pair.hello = some [serial, measurement, control, if busy then 1 else 0] ∧ t.pairState = 0)
      ∧ (s.pairState = 2 ∨ s.pairState = 4 ∨ s.pairState = 5 →
        Completes (.pairHello serial measurement control busy) s fun t => t = s.takeMsg 1 m))
    ∧ (s.pairState = 1 → Completes .pairHelloTimeout s fun t => t.get 0x3111 1 = (if s.fab.pair.fromSolo then 3 else 0) + 256)
    ∧ (s.hasMsg 1 { type := 4 } = true →
      (s.pairState = 2 → s.fab.pair.mirrorQ = [] → PlanerIdle s → Completes .pairLeave s fun t => t.pairState = 3
        ∧ t.fab.pair.hello = none)
      ∧ (s.pairState = 0 ∨ s.pairState = 1 ∨ s.pairState = 3 → Completes .pairLeave s fun t =>
        t.fab.pair.hello = none ∧ t.pairState = s.pairState))
    ∧ (s.fab.pair.mirrorQ = [] → s.pairState = 6 → Completes .pairStopComplete s fun t => t.pairState = 0)
    ∧ (s.fab.pair.mirrorQ = [] → s.pairState = 7 → s.fab.pair.hello = none → Completes .pairStopComplete s fun t =>
        t.pairState = 1)
    ∧ (∀ index sub value, s.pairState = 2 → mirrored index = true → index ≠ 0x4110 → index ≠ 0x3111 → sub < 256 →
      (s.member = 0 → s.hasMsg 1 { type := 5, body := mirrorBody index sub value } = true →
        Completes (.mirrorWrite index sub value) s fun t => t.get index sub = leNat value
          ∧ t.fab.pair.nextMirror = (s.fab.pair.nextMirror + 1) % 2 ^ 32 ∧ Rises s t 0x803A 0x0A 1)
      ∧ (s.member = 1 → s.hasMsg 1 { type := 6, id := s.fab.pair.appliedMirror, body := mirrorBody index sub value } = true →
        Completes (.mirrorApply s.fab.pair.appliedMirror index sub value) s fun t => t.get index sub = leNat value
          ∧ t.fab.pair.appliedMirror = (s.fab.pair.appliedMirror + 1) % 2 ^ 32 ∧ Rises s t 0x803A 0x0A 1))
    ∧ (∀ e : List Nat, s.paired = true → s.hasMsg 1 { type := 7, body := claimBody e } = true →
      (s.fab.pair.localClaims = [] → Completes (.batchClaim e) s fun t =>
        t.fab.pair.partnerClaims = s.fab.pair.partnerClaims ++ [e] ∧ t.ctr = s.ctr)
      ∧ (s.fab.pair.localClaims = [e] → Completes (.batchClaim e) s fun t => t.fab.pair.localClaims = [] ∧ t.ctr = s.ctr))

/-- A refill (R388): the donor sends everything once it is quiet; the receiver creates the contexts, stores the segments whose
CRC holds, and both enter PAIRED. -/
def Obligations.RefillCommandsComplete : Prop :=
  ∀ s : State, Canonical s → CountersBounded s → s.sched.ctxs.length = 64 →
    (s.pairState = 4 → s.fab.pair.sent = false → s.sched.flights = [] → s.sched.interrupted = [] → s.sched.suspects = [] →
      s.plan.job = none → (∀ h ∈ s.holders, h.2.phase = .ready) → (∀ l ∈ s.sched.lists, l.phase ≠ .dispatching) →
      Completes .donorQuiesced s fun t => t.fab.pair.sent = true ∧ t.pairState = 4 ∧ (NoErrors s → t.mem = s.mem))
    ∧ (∀ (r : Refill) (x : RefillCtx), s.hasMsg 1 { type := 0x30, body := refillBytes r } = true → s.pairState = 5 →
      r.ctxs = [x] → s.canCreate x = true →
      Completes (.refillBegin r) s fun t => t.modelState x.model = 2 ∧ (t.ctx x.ctx).phase = .loading
        ∧ (t.ctx x.ctx).partBase = x.part.1 ∧ (t.ctx x.ctx).partSize = x.part.2 ∧ t.mem = s.mem)
    ∧ (∀ r : Refill, s.hasMsg 1 { type := 0x30, body := refillBytes r } = true → s.pairState = 5 → s.holders = [] →
      r.ctxs.all s.canCreate = false →
      Completes (.refillBegin r) s fun t => t.get 0x3111 1 = 5 * 256 ∧ Rises s t 0x803A 0x0D 1)
    ∧ (∀ (c off crc : Nat) (bs : List Byte), s.hasMsg 1 (refillMsg off bs crc) = true → s.pairState = 5 →
      (s.ctx c).phase = .loading →
      (crc64 bs = crc → off + bs.length ≤ (s.ctx c).partSize → NoErrors s → Completes (.refillData c off bs crc) s fun t =>
        ∀ i < bs.length, memRd t.mem (s.partAddr c (off + i)) = bs.getD i 0#8)
      ∧ (crc64 bs ≠ crc → (c, off) ∉ s.fab.pair.refillFailed → Completes (.refillData c off bs crc) s fun t =>
        (c, off) ∈ t.fab.pair.refillFailed ∧ t.mem = s.mem)
      ∧ (crc64 bs ≠ crc → (c, off) ∈ s.fab.pair.refillFailed → Completes (.refillData c off bs crc) s fun t =>
        t.pairState = 0 ∧ Rises s t 0x803A 0x0D 1))
    ∧ (∀ crc : Nat, s.hasMsg 1 { type := 0x32, body := beBytes 8 crc } = true →
      (s.pairState = 4 → s.fab.pair.sent = true → Completes (.refillEnd crc) s fun t => t.pairState = 2
        ∧ Rises s t 0x803A 0x0C 1)
      ∧ (s.pairState = 5 → s.holders = [] → s.digestCrc = crc → Completes (.refillEnd crc) s fun t =>
        t.pairState = 2 ∧ Rises s t 0x803A 0x0C 1))
end

