-- ==== Sys2Proof/Laws/Memory.lean ====
section
/-! SUPPORT. Sparse lists: read after write, the frame of a write, and the canonical form, which every operation over
memory, uncorrectable units, objects and counters keeps. -/

namespace Sys2Proof.Machine

section Sparse
variable {α : Type} [DecidableEq α] {d : α}

theorem smWfFrom_mono {b c : Nat} {l : List (Nat × α)} (h : smWfFrom d c l = true) (hbc : b ≤ c) :
    smWfFrom d b l = true := by
  cases l with
  | nil => rfl
  | cons e r =>
    obtain ⟨k, v⟩ := e
    simp only [smWfFrom, Bool.and_eq_true, decide_eq_true_eq] at h ⊢
    exact ⟨Nat.le_trans hbc h.1, h.2⟩

/-- A key below the bound of a canonical list is not listed. -/
theorem smGet_below {b k : Nat} {l : List (Nat × α)} (h : smWfFrom d b l = true) (hk : k < b) : smGet d l k = d := by
  cases l with
  | nil => rfl
  | cons e r =>
    obtain ⟨k', v⟩ := e
    simp only [smWfFrom, Bool.and_eq_true, decide_eq_true_eq] at h
    have hlt : k < k' := Nat.lt_of_lt_of_le hk h.1
    simp [smGet, Nat.ne_of_lt hlt, hlt]

theorem smWfFrom_smSet {b k : Nat} {v : α} {l : List (Nat × α)} (h : smWfFrom d b l = true) (hb : b ≤ k) :
    smWfFrom d b (smSet d l k v) = true := by
  induction l generalizing b with
  | nil =>
    by_cases hv : v = d
    · simp [smSet, hv, smWfFrom]
    · simp [smSet, hv, smWfFrom, hb]
  | cons e r ih =>
    obtain ⟨k', v'⟩ := e
    simp only [smWfFrom, Bool.and_eq_true, decide_eq_true_eq] at h
    obtain ⟨hk', hv', hr⟩ := h
    unfold smSet
    by_cases hlt : k < k'
    · by_cases hv : v = d
      · simp [hlt, hv, smWfFrom, hk', hv', hr]
      · have : k + 1 ≤ k' := hlt
        simp [hlt, hv, smWfFrom, hb, hv', hr, this]
    · by_cases heq : k = k'
      · subst heq
        by_cases hv : v = d
        · simpa [hv] using smWfFrom_mono hr (Nat.le_trans hk' (Nat.le_succ k))
        · simp [hv, smWfFrom, hk', hr]
      · have hgt : k' + 1 ≤ k := by omega
        simp [hlt, heq, smWfFrom, hk', hv', ih hr hgt]

theorem smWf_smSet {k : Nat} {v : α} {l : List (Nat × α)} (h : smWf d l = true) : smWf d (smSet d l k v) = true :=
  smWfFrom_smSet h (Nat.zero_le k)

theorem smGet_smSet_from {b k : Nat} {v : α} {l : List (Nat × α)} (h : smWfFrom d b l = true) :
    smGet d (smSet d l k v) k = v := by
  induction l generalizing b with
  | nil => by_cases hv : v = d <;> simp [smSet, hv, smGet]
  | cons e r ih =>
    obtain ⟨k', v'⟩ := e
    simp only [smWfFrom, Bool.and_eq_true, decide_eq_true_eq] at h
    unfold smSet
    by_cases hlt : k < k'
    · by_cases hv : v = d
      · simp [hlt, hv, smGet, Nat.ne_of_lt hlt]
      · simp [hlt, hv, smGet]
    · by_cases heq : k = k'
      · subst heq
        by_cases hv : v = d
        · simpa [hv] using smGet_below h.2.2 (Nat.lt_succ_self k)
        · simp [hv, smGet]
      · simp [hlt, heq, smGet, ih h.2.2]

/-- A write is read back. -/
theorem smGet_smSet_self {k : Nat} {v : α} {l : List (Nat × α)} (h : smWf d l = true) : smGet d (smSet d l k v) k = v :=
  smGet_smSet_from h

theorem smGet_smSet_ne_from {b k j : Nat} {v : α} {l : List (Nat × α)} (h : smWfFrom d b l = true) (hj : j ≠ k) :
    smGet d (smSet d l k v) j = smGet d l j := by
  induction l generalizing b with
  | nil => by_cases hv : v = d <;> simp [smSet, hv, smGet, hj]
  | cons e r ih =>
    obtain ⟨k', v'⟩ := e
    simp only [smWfFrom, Bool.and_eq_true, decide_eq_true_eq] at h
    unfold smSet
    by_cases hlt : k < k'
    · by_cases hv : v = d
      · simp [hlt, hv]
      · by_cases hjk : j < k
        · have : j < k' := Nat.lt_trans hjk hlt
          simp [hlt, hv, smGet, hj, hjk, this, Nat.ne_of_lt this]
        · simp [hlt, hv, smGet, hj, hjk]
    · by_cases heq : k = k'
      · subst heq
        by_cases hv : v = d
        · by_cases hjk : j < k
          · simp [hv, smGet, hj, hjk, smGet_below h.2.2 (Nat.lt_succ_of_lt hjk)]
          · simp [hv, smGet, hj, hjk]
        · simp [hv, smGet, hj]
      · by_cases hjk : j = k'
        · simp [hlt, heq, smGet, hjk]
        · simp [hlt, heq, smGet, hjk, ih h.2.2]

/-- A write leaves every other key alone. -/
theorem smGet_smSet_ne {k j : Nat} {v : α} {l : List (Nat × α)} (h : smWf d l = true) (hj : j ≠ k) :
    smGet d (smSet d l k v) j = smGet d l j :=
  smGet_smSet_ne_from h hj

theorem smWfFrom_filter {b : Nat} {p : Nat × α → Bool} {l : List (Nat × α)} (h : smWfFrom d b l = true) :
    smWfFrom d b (l.filter p) = true := by
  induction l generalizing b with
  | nil => rfl
  | cons e r ih =>
    obtain ⟨k, v⟩ := e
    simp only [smWfFrom, Bool.and_eq_true, decide_eq_true_eq] at h
    by_cases hp : p (k, v) = true
    · simp [List.filter_cons_of_pos hp, smWfFrom, h.1, h.2.1, ih h.2.2]
    · simpa [List.filter_cons_of_neg hp] using smWfFrom_mono (ih h.2.2) (Nat.le_trans h.1 (Nat.le_succ k))

/-- Entries may be left out of a canonical list. -/
theorem smWf_filter {p : Nat × α → Bool} {l : List (Nat × α)} (h : smWf d l = true) : smWf d (l.filter p) = true :=
  smWfFrom_filter h

theorem smWf_smDrop {p : Nat → Bool} {l : List (Nat × α)} (h : smWf d l = true) : smWf d (smDrop p l) = true :=
  smWf_filter h

/-- A wipe clears the keys it names and no other. -/
theorem smGet_smDrop {p : Nat → Bool} {j : Nat} {l : List (Nat × α)} (h : smWf d l = true) :
    smGet d (smDrop p l) j = if p j then d else smGet d l j := by
  unfold smWf at h
  generalize 0 = b at h
  induction l generalizing b with
  | nil => simp [smDrop, smGet]
  | cons e r ih =>
    obtain ⟨k, v⟩ := e
    simp only [smWfFrom, Bool.and_eq_true, decide_eq_true_eq] at h
    have ihr := ih (k + 1) h.2.2
    unfold smDrop at ihr ⊢
    by_cases hp : p k = true
    · by_cases hjk : j = k
      · subst hjk
        simp [hp, ihr]
      · by_cases hlt : j < k
        · simp [hp, ihr, smGet, hjk, hlt, smGet_below h.2.2 (Nat.lt_succ_of_lt hlt)]
        · simp [hp, ihr, smGet, hjk, hlt]
    · by_cases hjk : j = k
      · subst hjk
        simp [hp, smGet]
      · by_cases hlt : j < k
        · simp [hp, smGet, hjk, hlt]
        · simp [hp, ihr, smGet, hjk, hlt]

end Sparse

/-! ## Memory -/

theorem memWr_wf {m : List Host.Cell} {a : Nat} {b : Byte} (h : Memory.wf m = true) : Memory.wf (memWr m a b) = true :=
  smWf_smSet h

theorem memWrs_wf {m : List Host.Cell} {a : Nat} {bs : List Byte} (h : Memory.wf m = true) :
    Memory.wf (memWrs m a bs) = true := by
  induction bs generalizing m a with
  | nil => exact h
  | cons b bs ih => exact ih (memWr_wf h)

theorem memWipe_wf {m : List Host.Cell} {a n : Nat} (h : Memory.wf m = true) : Memory.wf (memWipe m a n) = true :=
  smWf_smDrop h

theorem memRd_memWr_self {m : List Host.Cell} {a : Nat} {b : Byte} (h : Memory.wf m = true) : memRd (memWr m a b) a = b :=
  smGet_smSet_self h

theorem memRd_memWr_ne {m : List Host.Cell} {a j : Nat} {b : Byte} (h : Memory.wf m = true) (hj : j ≠ a) :
    memRd (memWr m a b) j = memRd m j :=
  smGet_smSet_ne h hj

/-- Bytes stored from `a` on leave every address outside `[a, a + length)` alone. -/
theorem memRd_memWrs_outside {m : List Host.Cell} {a j : Nat} {bs : List Byte} (h : Memory.wf m = true)
    (hj : j < a ∨ a + bs.length ≤ j) : memRd (memWrs m a bs) j = memRd m j := by
  induction bs generalizing m a with
  | nil => rfl
  | cons b bs ih =>
    simp only [List.length_cons] at hj
    rw [memWrs, ih (memWr_wf h) (by omega), memRd_memWr_ne h (by omega)]

/-- A wiped address reads zero; every other one reads as before. -/
theorem memRd_memWipe {m : List Host.Cell} {a n j : Nat} (h : Memory.wf m = true) :
    memRd (memWipe m a n) j = if a ≤ j ∧ j < a + n then 0#8 else memRd m j := by
  unfold memRd memWipe
  rw [smGet_smDrop h]
  simp [memEmpty]

/-! ## Counters -/

theorem ctrAdd_wf {c : List (Nat × Nat)} {k n : Nat} (h : smWf 0 c = true) : smWf 0 (ctrAdd c k n) = true := by
  unfold ctrAdd
  split
  · exact h
  · exact smWf_smSet h

theorem ctrAdd_zero {c : List (Nat × Nat)} {k : Nat} : ctrAdd c k 0 = c := rfl

/-- A counter rises by `n` and stays at its largest value. -/
theorem smGet_ctrAdd_self {c : List (Nat × Nat)} {k n : Nat} (h : smWf 0 c = true) (hc : smGet 0 c k ≤ ctrMax) :
    smGet 0 (ctrAdd c k n) k = min (smGet 0 c k + n) ctrMax := by
  unfold ctrAdd
  split
  · rename_i hn
    subst hn
    exact (Nat.min_eq_left hc).symm
  · exact smGet_smSet_self h

theorem smGet_ctrAdd_ne {c : List (Nat × Nat)} {k j n : Nat} (h : smWf 0 c = true) (hj : j ≠ k) :
    smGet 0 (ctrAdd c k n) j = smGet 0 c j := by
  unfold ctrAdd
  split
  · rfl
  · exact smGet_smSet_ne h hj

/-! ## Objects and counters of the state -/

theorem objKey_inj {i k i' k' : Nat} (hk : k < 256) (hk' : k' < 256) : objKey i k = objKey i' k' ↔ i = i' ∧ k = k' := by
  unfold objKey
  omega

/-- An object reads what was written to it. -/
theorem State.get_set_self {s : State} {i k v : Nat} (h : smWf 0 s.obj = true) : (s.set i k v).get i k = v := by
  simp [State.get, State.set, smGet_smSet_self h, Nat.xor_assoc]

/-- A write of one object leaves every other one alone. -/
theorem State.get_set_ne {s : State} {i k v i' k' : Nat} (h : smWf 0 s.obj = true) (hne : objKey i' k' ≠ objKey i k) :
    (s.set i k v).get i' k' = s.get i' k' := by
  simp [State.get, State.set, smGet_smSet_ne h hne]

theorem State.set_obj_wf {s : State} {i k v : Nat} (h : smWf 0 s.obj = true) : smWf 0 (s.set i k v).obj = true :=
  smWf_smSet h

theorem State.bump_ctr_wf {s : State} {i k n : Nat} (h : smWf 0 s.ctr = true) : smWf 0 (s.bump i k n).ctr = true :=
  ctrAdd_wf h

/-- A counter raised by `n` reads `n` more, up to its largest value. -/
theorem State.ctrAt_bump_self {s : State} {i k n : Nat} (h : smWf 0 s.ctr = true) (hc : s.ctrAt i k ≤ ctrMax) :
    (s.bump i k n).ctrAt i k = min (s.ctrAt i k + n) ctrMax :=
  smGet_ctrAdd_self h hc

theorem State.ctrAt_bump_ne {s : State} {i k n i' k' : Nat} (h : smWf 0 s.ctr = true) (hne : objKey i' k' ≠ objKey i k) :
    (s.bump i k n).ctrAt i' k' = s.ctrAt i' k' :=
  smGet_ctrAdd_ne h hne

end Sys2Proof.Machine
end

