-- ==== Sys2Proof/Laws/State.lean ====
section
/-! SUPPORT. One lemma per field per named update of the state: which field it changes, and that it changes no other. -/

namespace Sys2Proof.Machine

/-! ## State.bump -/

@[simp] theorem State.bump_pending (s : State) (i k n : Nat) : (s.bump i k n).pending = s.pending := rfl
@[simp] theorem State.bump_time (s : State) (i k n : Nat) : (s.bump i k n).time = s.time := rfl
@[simp] theorem State.bump_free (s : State) (i k n : Nat) : (s.bump i k n).free = s.free := rfl
@[simp] theorem State.bump_ctr (s : State) (i k n : Nat) : (s.bump i k n).ctr = ctrAdd s.ctr (objKey i k) n := rfl
@[simp] theorem State.bump_obj (s : State) (i k n : Nat) : (s.bump i k n).obj = s.obj := rfl
@[simp] theorem State.bump_mem (s : State) (i k n : Nat) : (s.bump i k n).mem = s.mem := rfl
@[simp] theorem State.bump_ue (s : State) (i k n : Nat) : (s.bump i k n).ue = s.ue := rfl
@[simp] theorem State.bump_cores (s : State) (i k n : Nat) : (s.bump i k n).cores = s.cores := rfl
@[simp] theorem State.bump_sched (s : State) (i k n : Nat) : (s.bump i k n).sched = s.sched := rfl
@[simp] theorem State.bump_memsys (s : State) (i k n : Nat) : (s.bump i k n).memsys = s.memsys := rfl
@[simp] theorem State.bump_net (s : State) (i k n : Nat) : (s.bump i k n).net = s.net := rfl
@[simp] theorem State.bump_seats (s : State) (i k n : Nat) : (s.bump i k n).seats = s.seats := rfl
@[simp] theorem State.bump_pkg (s : State) (i k n : Nat) : (s.bump i k n).pkg = s.pkg := rfl
@[simp] theorem State.bump_log (s : State) (i k n : Nat) : (s.bump i k n).log = s.log := rfl
@[simp] theorem State.bump_fab (s : State) (i k n : Nat) : (s.bump i k n).fab = s.fab := rfl
@[simp] theorem State.bump_plan (s : State) (i k n : Nat) : (s.bump i k n).plan = s.plan := rfl
@[simp] theorem State.bump_bg (s : State) (i k n : Nat) : (s.bump i k n).bg = s.bg := rfl
@[simp] theorem State.bump_contests (s : State) (i k n : Nat) : (s.bump i k n).contests = s.contests := rfl
@[simp] theorem State.bump_codec (s : State) (i k n : Nat) : (s.bump i k n).codec = s.codec := rfl
@[simp] theorem State.bump_intake (s : State) (i k n : Nat) : (s.bump i k n).intake = s.intake := rfl
@[simp] theorem State.bump_sec (s : State) (i k n : Nat) : (s.bump i k n).sec = s.sec := rfl

/-! ## State.set -/

@[simp] theorem State.set_pending (s : State) (i k v : Nat) : (s.set i k v).pending = s.pending := rfl
@[simp] theorem State.set_time (s : State) (i k v : Nat) : (s.set i k v).time = s.time := rfl
@[simp] theorem State.set_free (s : State) (i k v : Nat) : (s.set i k v).free = s.free := rfl
@[simp] theorem State.set_ctr (s : State) (i k v : Nat) : (s.set i k v).ctr = s.ctr := rfl
@[simp] theorem State.set_obj (s : State) (i k v : Nat) : (s.set i k v).obj = smSet 0 s.obj (objKey i k) (v ^^^ dfltOf i k) := rfl
@[simp] theorem State.set_mem (s : State) (i k v : Nat) : (s.set i k v).mem = s.mem := rfl
@[simp] theorem State.set_ue (s : State) (i k v : Nat) : (s.set i k v).ue = s.ue := rfl
@[simp] theorem State.set_cores (s : State) (i k v : Nat) : (s.set i k v).cores = s.cores := rfl
@[simp] theorem State.set_sched (s : State) (i k v : Nat) : (s.set i k v).sched = s.sched := rfl
@[simp] theorem State.set_memsys (s : State) (i k v : Nat) : (s.set i k v).memsys = s.memsys := rfl
@[simp] theorem State.set_net (s : State) (i k v : Nat) : (s.set i k v).net = s.net := rfl
@[simp] theorem State.set_seats (s : State) (i k v : Nat) : (s.set i k v).seats = s.seats := rfl
@[simp] theorem State.set_pkg (s : State) (i k v : Nat) : (s.set i k v).pkg = s.pkg := rfl
@[simp] theorem State.set_log (s : State) (i k v : Nat) : (s.set i k v).log = s.log := rfl
@[simp] theorem State.set_fab (s : State) (i k v : Nat) : (s.set i k v).fab = s.fab := rfl
@[simp] theorem State.set_plan (s : State) (i k v : Nat) : (s.set i k v).plan = s.plan := rfl
@[simp] theorem State.set_bg (s : State) (i k v : Nat) : (s.set i k v).bg = s.bg := rfl
@[simp] theorem State.set_contests (s : State) (i k v : Nat) : (s.set i k v).contests = s.contests := rfl
@[simp] theorem State.set_codec (s : State) (i k v : Nat) : (s.set i k v).codec = s.codec := rfl
@[simp] theorem State.set_intake (s : State) (i k v : Nat) : (s.set i k v).intake = s.intake := rfl
@[simp] theorem State.set_sec (s : State) (i k v : Nat) : (s.set i k v).sec = s.sec := rfl

/-! ## State.setStrm -/

@[simp] theorem State.setStrm_pending (s : State) (n : Nat) (x : Strm) : (s.setStrm n x).pending = s.pending := rfl
@[simp] theorem State.setStrm_time (s : State) (n : Nat) (x : Strm) : (s.setStrm n x).time = s.time := rfl
@[simp] theorem State.setStrm_free (s : State) (n : Nat) (x : Strm) : (s.setStrm n x).free = s.free := rfl
@[simp] theorem State.setStrm_ctr (s : State) (n : Nat) (x : Strm) : (s.setStrm n x).ctr = s.ctr := rfl
@[simp] theorem State.setStrm_obj (s : State) (n : Nat) (x : Strm) : (s.setStrm n x).obj = s.obj := rfl
@[simp] theorem State.setStrm_mem (s : State) (n : Nat) (x : Strm) : (s.setStrm n x).mem = s.mem := rfl
@[simp] theorem State.setStrm_ue (s : State) (n : Nat) (x : Strm) : (s.setStrm n x).ue = s.ue := rfl
@[simp] theorem State.setStrm_cores (s : State) (n : Nat) (x : Strm) : (s.setStrm n x).cores = s.cores := rfl
@[simp] theorem State.setStrm_sched (s : State) (n : Nat) (x : Strm) : (s.setStrm n x).sched = s.sched := rfl
@[simp] theorem State.setStrm_memsys (s : State) (n : Nat) (x : Strm) : (s.setStrm n x).memsys = s.memsys := rfl
@[simp] theorem State.setStrm_net (s : State) (n : Nat) (x : Strm) : (s.setStrm n x).net = { s.net with streams := smSet {} s.net.streams n x } := rfl
@[simp] theorem State.setStrm_seats (s : State) (n : Nat) (x : Strm) : (s.setStrm n x).seats = s.seats := rfl
@[simp] theorem State.setStrm_pkg (s : State) (n : Nat) (x : Strm) : (s.setStrm n x).pkg = s.pkg := rfl
@[simp] theorem State.setStrm_log (s : State) (n : Nat) (x : Strm) : (s.setStrm n x).log = s.log := rfl
@[simp] theorem State.setStrm_fab (s : State) (n : Nat) (x : Strm) : (s.setStrm n x).fab = s.fab := rfl
@[simp] theorem State.setStrm_plan (s : State) (n : Nat) (x : Strm) : (s.setStrm n x).plan = s.plan := rfl
@[simp] theorem State.setStrm_bg (s : State) (n : Nat) (x : Strm) : (s.setStrm n x).bg = s.bg := rfl
@[simp] theorem State.setStrm_contests (s : State) (n : Nat) (x : Strm) : (s.setStrm n x).contests = s.contests := rfl
@[simp] theorem State.setStrm_codec (s : State) (n : Nat) (x : Strm) : (s.setStrm n x).codec = s.codec := rfl
@[simp] theorem State.setStrm_intake (s : State) (n : Nat) (x : Strm) : (s.setStrm n x).intake = s.intake := rfl
@[simp] theorem State.setStrm_sec (s : State) (n : Nat) (x : Strm) : (s.setStrm n x).sec = s.sec := rfl

/-! ## State.send -/

@[simp] theorem State.send_pending (s : State) (d : Dest) (bs : List Byte) : (s.send d bs).pending = s.pending := rfl
@[simp] theorem State.send_time (s : State) (d : Dest) (bs : List Byte) : (s.send d bs).time = s.time := rfl
@[simp] theorem State.send_free (s : State) (d : Dest) (bs : List Byte) : (s.send d bs).free = s.free := rfl
@[simp] theorem State.send_ctr (s : State) (d : Dest) (bs : List Byte) : (s.send d bs).ctr = s.ctr := rfl
@[simp] theorem State.send_obj (s : State) (d : Dest) (bs : List Byte) : (s.send d bs).obj = s.obj := rfl
@[simp] theorem State.send_mem (s : State) (d : Dest) (bs : List Byte) : (s.send d bs).mem = s.mem := rfl
@[simp] theorem State.send_ue (s : State) (d : Dest) (bs : List Byte) : (s.send d bs).ue = s.ue := rfl
@[simp] theorem State.send_cores (s : State) (d : Dest) (bs : List Byte) : (s.send d bs).cores = s.cores := rfl
@[simp] theorem State.send_sched (s : State) (d : Dest) (bs : List Byte) : (s.send d bs).sched = s.sched := rfl
@[simp] theorem State.send_memsys (s : State) (d : Dest) (bs : List Byte) : (s.send d bs).memsys = s.memsys := rfl
@[simp] theorem State.send_net (s : State) (d : Dest) (bs : List Byte) : (s.send d bs).net = { s.net with wire := s.net.wire ++ [⟨d, bs⟩] } := rfl
@[simp] theorem State.send_seats (s : State) (d : Dest) (bs : List Byte) : (s.send d bs).seats = s.seats := rfl
@[simp] theorem State.send_pkg (s : State) (d : Dest) (bs : List Byte) : (s.send d bs).pkg = s.pkg := rfl
@[simp] theorem State.send_log (s : State) (d : Dest) (bs : List Byte) : (s.send d bs).log = s.log := rfl
@[simp] theorem State.send_fab (s : State) (d : Dest) (bs : List Byte) : (s.send d bs).fab = s.fab := rfl
@[simp] theorem State.send_plan (s : State) (d : Dest) (bs : List Byte) : (s.send d bs).plan = s.plan := rfl
@[simp] theorem State.send_bg (s : State) (d : Dest) (bs : List Byte) : (s.send d bs).bg = s.bg := rfl
@[simp] theorem State.send_contests (s : State) (d : Dest) (bs : List Byte) : (s.send d bs).contests = s.contests := rfl
@[simp] theorem State.send_codec (s : State) (d : Dest) (bs : List Byte) : (s.send d bs).codec = s.codec := rfl
@[simp] theorem State.send_intake (s : State) (d : Dest) (bs : List Byte) : (s.send d bs).intake = s.intake := rfl
@[simp] theorem State.send_sec (s : State) (d : Dest) (bs : List Byte) : (s.send d bs).sec = s.sec := rfl

/-! ## State.modCtx -/

@[simp] theorem State.modCtx_pending (s : State) (c : Nat) (f : Ctx → Ctx) : (s.modCtx c f).pending = s.pending := rfl
@[simp] theorem State.modCtx_time (s : State) (c : Nat) (f : Ctx → Ctx) : (s.modCtx c f).time = s.time := rfl
@[simp] theorem State.modCtx_free (s : State) (c : Nat) (f : Ctx → Ctx) : (s.modCtx c f).free = s.free := rfl
@[simp] theorem State.modCtx_ctr (s : State) (c : Nat) (f : Ctx → Ctx) : (s.modCtx c f).ctr = s.ctr := rfl
@[simp] theorem State.modCtx_obj (s : State) (c : Nat) (f : Ctx → Ctx) : (s.modCtx c f).obj = s.obj := rfl
@[simp] theorem State.modCtx_mem (s : State) (c : Nat) (f : Ctx → Ctx) : (s.modCtx c f).mem = s.mem := rfl
@[simp] theorem State.modCtx_ue (s : State) (c : Nat) (f : Ctx → Ctx) : (s.modCtx c f).ue = s.ue := rfl
@[simp] theorem State.modCtx_cores (s : State) (c : Nat) (f : Ctx → Ctx) : (s.modCtx c f).cores = s.cores := rfl
@[simp] theorem State.modCtx_sched (s : State) (c : Nat) (f : Ctx → Ctx) : (s.modCtx c f).sched = { s.sched with ctxs := modNth s.sched.ctxs c f } := rfl
@[simp] theorem State.modCtx_memsys (s : State) (c : Nat) (f : Ctx → Ctx) : (s.modCtx c f).memsys = s.memsys := rfl
@[simp] theorem State.modCtx_net (s : State) (c : Nat) (f : Ctx → Ctx) : (s.modCtx c f).net = s.net := rfl
@[simp] theorem State.modCtx_seats (s : State) (c : Nat) (f : Ctx → Ctx) : (s.modCtx c f).seats = s.seats := rfl
@[simp] theorem State.modCtx_pkg (s : State) (c : Nat) (f : Ctx → Ctx) : (s.modCtx c f).pkg = s.pkg := rfl
@[simp] theorem State.modCtx_log (s : State) (c : Nat) (f : Ctx → Ctx) : (s.modCtx c f).log = s.log := rfl
@[simp] theorem State.modCtx_fab (s : State) (c : Nat) (f : Ctx → Ctx) : (s.modCtx c f).fab = s.fab := rfl
@[simp] theorem State.modCtx_plan (s : State) (c : Nat) (f : Ctx → Ctx) : (s.modCtx c f).plan = s.plan := rfl
@[simp] theorem State.modCtx_bg (s : State) (c : Nat) (f : Ctx → Ctx) : (s.modCtx c f).bg = s.bg := rfl
@[simp] theorem State.modCtx_contests (s : State) (c : Nat) (f : Ctx → Ctx) : (s.modCtx c f).contests = s.contests := rfl
@[simp] theorem State.modCtx_codec (s : State) (c : Nat) (f : Ctx → Ctx) : (s.modCtx c f).codec = s.codec := rfl
@[simp] theorem State.modCtx_intake (s : State) (c : Nat) (f : Ctx → Ctx) : (s.modCtx c f).intake = s.intake := rfl
@[simp] theorem State.modCtx_sec (s : State) (c : Nat) (f : Ctx → Ctx) : (s.modCtx c f).sec = s.sec := rfl

/-! ## State.modList -/

@[simp] theorem State.modList_pending (s : State) (id : Nat) (f : CList → CList) : (s.modList id f).pending = s.pending := rfl
@[simp] theorem State.modList_time (s : State) (id : Nat) (f : CList → CList) : (s.modList id f).time = s.time := rfl
@[simp] theorem State.modList_free (s : State) (id : Nat) (f : CList → CList) : (s.modList id f).free = s.free := rfl
@[simp] theorem State.modList_ctr (s : State) (id : Nat) (f : CList → CList) : (s.modList id f).ctr = s.ctr := rfl
@[simp] theorem State.modList_obj (s : State) (id : Nat) (f : CList → CList) : (s.modList id f).obj = s.obj := rfl
@[simp] theorem State.modList_mem (s : State) (id : Nat) (f : CList → CList) : (s.modList id f).mem = s.mem := rfl
@[simp] theorem State.modList_ue (s : State) (id : Nat) (f : CList → CList) : (s.modList id f).ue = s.ue := rfl
@[simp] theorem State.modList_cores (s : State) (id : Nat) (f : CList → CList) : (s.modList id f).cores = s.cores := rfl
@[simp] theorem State.modList_sched (s : State) (id : Nat) (f : CList → CList) : (s.modList id f).sched = { s.sched with lists := mapIf (fun l => l.id == id) f s.sched.lists } := rfl
@[simp] theorem State.modList_memsys (s : State) (id : Nat) (f : CList → CList) : (s.modList id f).memsys = s.memsys := rfl
@[simp] theorem State.modList_net (s : State) (id : Nat) (f : CList → CList) : (s.modList id f).net = s.net := rfl
@[simp] theorem State.modList_seats (s : State) (id : Nat) (f : CList → CList) : (s.modList id f).seats = s.seats := rfl
@[simp] theorem State.modList_pkg (s : State) (id : Nat) (f : CList → CList) : (s.modList id f).pkg = s.pkg := rfl
@[simp] theorem State.modList_log (s : State) (id : Nat) (f : CList → CList) : (s.modList id f).log = s.log := rfl
@[simp] theorem State.modList_fab (s : State) (id : Nat) (f : CList → CList) : (s.modList id f).fab = s.fab := rfl
@[simp] theorem State.modList_plan (s : State) (id : Nat) (f : CList → CList) : (s.modList id f).plan = s.plan := rfl
@[simp] theorem State.modList_bg (s : State) (id : Nat) (f : CList → CList) : (s.modList id f).bg = s.bg := rfl
@[simp] theorem State.modList_contests (s : State) (id : Nat) (f : CList → CList) : (s.modList id f).contests = s.contests := rfl
@[simp] theorem State.modList_codec (s : State) (id : Nat) (f : CList → CList) : (s.modList id f).codec = s.codec := rfl
@[simp] theorem State.modList_intake (s : State) (id : Nat) (f : CList → CList) : (s.modList id f).intake = s.intake := rfl
@[simp] theorem State.modList_sec (s : State) (id : Nat) (f : CList → CList) : (s.modList id f).sec = s.sec := rfl

/-! ## State.modFlight -/

@[simp] theorem State.modFlight_pending (s : State) (id : Nat) (f : Flight → Flight) : (s.modFlight id f).pending = s.pending := rfl
@[simp] theorem State.modFlight_time (s : State) (id : Nat) (f : Flight → Flight) : (s.modFlight id f).time = s.time := rfl
@[simp] theorem State.modFlight_free (s : State) (id : Nat) (f : Flight → Flight) : (s.modFlight id f).free = s.free := rfl
@[simp] theorem State.modFlight_ctr (s : State) (id : Nat) (f : Flight → Flight) : (s.modFlight id f).ctr = s.ctr := rfl
@[simp] theorem State.modFlight_obj (s : State) (id : Nat) (f : Flight → Flight) : (s.modFlight id f).obj = s.obj := rfl
@[simp] theorem State.modFlight_mem (s : State) (id : Nat) (f : Flight → Flight) : (s.modFlight id f).mem = s.mem := rfl
@[simp] theorem State.modFlight_ue (s : State) (id : Nat) (f : Flight → Flight) : (s.modFlight id f).ue = s.ue := rfl
@[simp] theorem State.modFlight_cores (s : State) (id : Nat) (f : Flight → Flight) : (s.modFlight id f).cores = s.cores := rfl
@[simp] theorem State.modFlight_sched (s : State) (id : Nat) (f : Flight → Flight) : (s.modFlight id f).sched = { s.sched with flights := mapIf (fun x => x.id == id) f s.sched.flights } := rfl
@[simp] theorem State.modFlight_memsys (s : State) (id : Nat) (f : Flight → Flight) : (s.modFlight id f).memsys = s.memsys := rfl
@[simp] theorem State.modFlight_net (s : State) (id : Nat) (f : Flight → Flight) : (s.modFlight id f).net = s.net := rfl
@[simp] theorem State.modFlight_seats (s : State) (id : Nat) (f : Flight → Flight) : (s.modFlight id f).seats = s.seats := rfl
@[simp] theorem State.modFlight_pkg (s : State) (id : Nat) (f : Flight → Flight) : (s.modFlight id f).pkg = s.pkg := rfl
@[simp] theorem State.modFlight_log (s : State) (id : Nat) (f : Flight → Flight) : (s.modFlight id f).log = s.log := rfl
@[simp] theorem State.modFlight_fab (s : State) (id : Nat) (f : Flight → Flight) : (s.modFlight id f).fab = s.fab := rfl
@[simp] theorem State.modFlight_plan (s : State) (id : Nat) (f : Flight → Flight) : (s.modFlight id f).plan = s.plan := rfl
@[simp] theorem State.modFlight_bg (s : State) (id : Nat) (f : Flight → Flight) : (s.modFlight id f).bg = s.bg := rfl
@[simp] theorem State.modFlight_contests (s : State) (id : Nat) (f : Flight → Flight) : (s.modFlight id f).contests = s.contests := rfl
@[simp] theorem State.modFlight_codec (s : State) (id : Nat) (f : Flight → Flight) : (s.modFlight id f).codec = s.codec := rfl
@[simp] theorem State.modFlight_intake (s : State) (id : Nat) (f : Flight → Flight) : (s.modFlight id f).intake = s.intake := rfl
@[simp] theorem State.modFlight_sec (s : State) (id : Nat) (f : Flight → Flight) : (s.modFlight id f).sec = s.sec := rfl

/-! ## State.addFlight -/

@[simp] theorem State.addFlight_pending (s : State) (f : Flight) : (s.addFlight f).pending = s.pending := rfl
@[simp] theorem State.addFlight_time (s : State) (f : Flight) : (s.addFlight f).time = s.time := rfl
@[simp] theorem State.addFlight_free (s : State) (f : Flight) : (s.addFlight f).free = s.free := rfl
@[simp] theorem State.addFlight_ctr (s : State) (f : Flight) : (s.addFlight f).ctr = s.ctr := rfl
@[simp] theorem State.addFlight_obj (s : State) (f : Flight) : (s.addFlight f).obj = s.obj := rfl
@[simp] theorem State.addFlight_mem (s : State) (f : Flight) : (s.addFlight f).mem = s.mem := rfl
@[simp] theorem State.addFlight_ue (s : State) (f : Flight) : (s.addFlight f).ue = s.ue := rfl
@[simp] theorem State.addFlight_cores (s : State) (f : Flight) : (s.addFlight f).cores = s.cores := rfl
@[simp] theorem State.addFlight_sched (s : State) (f : Flight) : (s.addFlight f).sched = { s.sched with flights := s.sched.flights ++ [f], nextId := s.sched.nextId + 1 } := rfl
@[simp] theorem State.addFlight_memsys (s : State) (f : Flight) : (s.addFlight f).memsys = s.memsys := rfl
@[simp] theorem State.addFlight_net (s : State) (f : Flight) : (s.addFlight f).net = s.net := rfl
@[simp] theorem State.addFlight_seats (s : State) (f : Flight) : (s.addFlight f).seats = s.seats := rfl
@[simp] theorem State.addFlight_pkg (s : State) (f : Flight) : (s.addFlight f).pkg = s.pkg := rfl
@[simp] theorem State.addFlight_log (s : State) (f : Flight) : (s.addFlight f).log = s.log := rfl
@[simp] theorem State.addFlight_fab (s : State) (f : Flight) : (s.addFlight f).fab = s.fab := rfl
@[simp] theorem State.addFlight_plan (s : State) (f : Flight) : (s.addFlight f).plan = s.plan := rfl
@[simp] theorem State.addFlight_bg (s : State) (f : Flight) : (s.addFlight f).bg = s.bg := rfl
@[simp] theorem State.addFlight_contests (s : State) (f : Flight) : (s.addFlight f).contests = s.contests := rfl
@[simp] theorem State.addFlight_codec (s : State) (f : Flight) : (s.addFlight f).codec = s.codec := rfl
@[simp] theorem State.addFlight_intake (s : State) (f : Flight) : (s.addFlight f).intake = s.intake := rfl
@[simp] theorem State.addFlight_sec (s : State) (f : Flight) : (s.addFlight f).sec = s.sec := rfl

/-! ## State.setTrackers -/

@[simp] theorem State.setTrackers_pending (s : State) (l : List Tracker) : (s.setTrackers l).pending = s.pending := rfl
@[simp] theorem State.setTrackers_time (s : State) (l : List Tracker) : (s.setTrackers l).time = s.time := rfl
@[simp] theorem State.setTrackers_free (s : State) (l : List Tracker) : (s.setTrackers l).free = s.free := rfl
@[simp] theorem State.setTrackers_ctr (s : State) (l : List Tracker) : (s.setTrackers l).ctr = s.ctr := rfl
@[simp] theorem State.setTrackers_obj (s : State) (l : List Tracker) : (s.setTrackers l).obj = s.obj := rfl
@[simp] theorem State.setTrackers_mem (s : State) (l : List Tracker) : (s.setTrackers l).mem = s.mem := rfl
@[simp] theorem State.setTrackers_ue (s : State) (l : List Tracker) : (s.setTrackers l).ue = s.ue := rfl
@[simp] theorem State.setTrackers_cores (s : State) (l : List Tracker) : (s.setTrackers l).cores = s.cores := rfl
@[simp] theorem State.setTrackers_sched (s : State) (l : List Tracker) : (s.setTrackers l).sched = s.sched := rfl
@[simp] theorem State.setTrackers_memsys (s : State) (l : List Tracker) : (s.setTrackers l).memsys = { s.memsys with trackers := l } := rfl
@[simp] theorem State.setTrackers_net (s : State) (l : List Tracker) : (s.setTrackers l).net = s.net := rfl
@[simp] theorem State.setTrackers_seats (s : State) (l : List Tracker) : (s.setTrackers l).seats = s.seats := rfl
@[simp] theorem State.setTrackers_pkg (s : State) (l : List Tracker) : (s.setTrackers l).pkg = s.pkg := rfl
@[simp] theorem State.setTrackers_log (s : State) (l : List Tracker) : (s.setTrackers l).log = s.log := rfl
@[simp] theorem State.setTrackers_fab (s : State) (l : List Tracker) : (s.setTrackers l).fab = s.fab := rfl
@[simp] theorem State.setTrackers_plan (s : State) (l : List Tracker) : (s.setTrackers l).plan = s.plan := rfl
@[simp] theorem State.setTrackers_bg (s : State) (l : List Tracker) : (s.setTrackers l).bg = s.bg := rfl
@[simp] theorem State.setTrackers_contests (s : State) (l : List Tracker) : (s.setTrackers l).contests = s.contests := rfl
@[simp] theorem State.setTrackers_codec (s : State) (l : List Tracker) : (s.setTrackers l).codec = s.codec := rfl
@[simp] theorem State.setTrackers_intake (s : State) (l : List Tracker) : (s.setTrackers l).intake = s.intake := rfl
@[simp] theorem State.setTrackers_sec (s : State) (l : List Tracker) : (s.setTrackers l).sec = s.sec := rfl

/-! ## State.setArrivals -/

@[simp] theorem State.setArrivals_pending (s : State) (c : Nat) (l : List Arrival) : (s.setArrivals c l).pending = s.pending := rfl
@[simp] theorem State.setArrivals_time (s : State) (c : Nat) (l : List Arrival) : (s.setArrivals c l).time = s.time := rfl
@[simp] theorem State.setArrivals_free (s : State) (c : Nat) (l : List Arrival) : (s.setArrivals c l).free = s.free := rfl
@[simp] theorem State.setArrivals_ctr (s : State) (c : Nat) (l : List Arrival) : (s.setArrivals c l).ctr = s.ctr := rfl
@[simp] theorem State.setArrivals_obj (s : State) (c : Nat) (l : List Arrival) : (s.setArrivals c l).obj = s.obj := rfl
@[simp] theorem State.setArrivals_mem (s : State) (c : Nat) (l : List Arrival) : (s.setArrivals c l).mem = s.mem := rfl
@[simp] theorem State.setArrivals_ue (s : State) (c : Nat) (l : List Arrival) : (s.setArrivals c l).ue = s.ue := rfl
@[simp] theorem State.setArrivals_cores (s : State) (c : Nat) (l : List Arrival) : (s.setArrivals c l).cores = { s.cores with barriers := smSet [] s.cores.barriers c l } := rfl
@[simp] theorem State.setArrivals_sched (s : State) (c : Nat) (l : List Arrival) : (s.setArrivals c l).sched = s.sched := rfl
@[simp] theorem State.setArrivals_memsys (s : State) (c : Nat) (l : List Arrival) : (s.setArrivals c l).memsys = s.memsys := rfl
@[simp] theorem State.setArrivals_net (s : State) (c : Nat) (l : List Arrival) : (s.setArrivals c l).net = s.net := rfl
@[simp] theorem State.setArrivals_seats (s : State) (c : Nat) (l : List Arrival) : (s.setArrivals c l).seats = s.seats := rfl
@[simp] theorem State.setArrivals_pkg (s : State) (c : Nat) (l : List Arrival) : (s.setArrivals c l).pkg = s.pkg := rfl
@[simp] theorem State.setArrivals_log (s : State) (c : Nat) (l : List Arrival) : (s.setArrivals c l).log = s.log := rfl
@[simp] theorem State.setArrivals_fab (s : State) (c : Nat) (l : List Arrival) : (s.setArrivals c l).fab = s.fab := rfl
@[simp] theorem State.setArrivals_plan (s : State) (c : Nat) (l : List Arrival) : (s.setArrivals c l).plan = s.plan := rfl
@[simp] theorem State.setArrivals_bg (s : State) (c : Nat) (l : List Arrival) : (s.setArrivals c l).bg = s.bg := rfl
@[simp] theorem State.setArrivals_contests (s : State) (c : Nat) (l : List Arrival) : (s.setArrivals c l).contests = s.contests := rfl
@[simp] theorem State.setArrivals_codec (s : State) (c : Nat) (l : List Arrival) : (s.setArrivals c l).codec = s.codec := rfl
@[simp] theorem State.setArrivals_intake (s : State) (c : Nat) (l : List Arrival) : (s.setArrivals c l).intake = s.intake := rfl
@[simp] theorem State.setArrivals_sec (s : State) (c : Nat) (l : List Arrival) : (s.setArrivals c l).sec = s.sec := rfl

/-! ## State.modSeat -/

@[simp] theorem State.modSeat_pending (s : State) (k : Nat) (f : Seat → Seat) : (s.modSeat k f).pending = s.pending := rfl
@[simp] theorem State.modSeat_time (s : State) (k : Nat) (f : Seat → Seat) : (s.modSeat k f).time = s.time := rfl
@[simp] theorem State.modSeat_free (s : State) (k : Nat) (f : Seat → Seat) : (s.modSeat k f).free = s.free := rfl
@[simp] theorem State.modSeat_ctr (s : State) (k : Nat) (f : Seat → Seat) : (s.modSeat k f).ctr = s.ctr := rfl
@[simp] theorem State.modSeat_obj (s : State) (k : Nat) (f : Seat → Seat) : (s.modSeat k f).obj = s.obj := rfl
@[simp] theorem State.modSeat_mem (s : State) (k : Nat) (f : Seat → Seat) : (s.modSeat k f).mem = s.mem := rfl
@[simp] theorem State.modSeat_ue (s : State) (k : Nat) (f : Seat → Seat) : (s.modSeat k f).ue = s.ue := rfl
@[simp] theorem State.modSeat_cores (s : State) (k : Nat) (f : Seat → Seat) : (s.modSeat k f).cores = s.cores := rfl
@[simp] theorem State.modSeat_sched (s : State) (k : Nat) (f : Seat → Seat) : (s.modSeat k f).sched = s.sched := rfl
@[simp] theorem State.modSeat_memsys (s : State) (k : Nat) (f : Seat → Seat) : (s.modSeat k f).memsys = s.memsys := rfl
@[simp] theorem State.modSeat_net (s : State) (k : Nat) (f : Seat → Seat) : (s.modSeat k f).net = s.net := rfl
@[simp] theorem State.modSeat_seats (s : State) (k : Nat) (f : Seat → Seat) : (s.modSeat k f).seats = modNth s.seats k f := rfl
@[simp] theorem State.modSeat_pkg (s : State) (k : Nat) (f : Seat → Seat) : (s.modSeat k f).pkg = s.pkg := rfl
@[simp] theorem State.modSeat_log (s : State) (k : Nat) (f : Seat → Seat) : (s.modSeat k f).log = s.log := rfl
@[simp] theorem State.modSeat_fab (s : State) (k : Nat) (f : Seat → Seat) : (s.modSeat k f).fab = s.fab := rfl
@[simp] theorem State.modSeat_plan (s : State) (k : Nat) (f : Seat → Seat) : (s.modSeat k f).plan = s.plan := rfl
@[simp] theorem State.modSeat_bg (s : State) (k : Nat) (f : Seat → Seat) : (s.modSeat k f).bg = s.bg := rfl
@[simp] theorem State.modSeat_contests (s : State) (k : Nat) (f : Seat → Seat) : (s.modSeat k f).contests = s.contests := rfl
@[simp] theorem State.modSeat_codec (s : State) (k : Nat) (f : Seat → Seat) : (s.modSeat k f).codec = s.codec := rfl
@[simp] theorem State.modSeat_intake (s : State) (k : Nat) (f : Seat → Seat) : (s.modSeat k f).intake = s.intake := rfl
@[simp] theorem State.modSeat_sec (s : State) (k : Nat) (f : Seat → Seat) : (s.modSeat k f).sec = s.sec := rfl

/-! ## State.setSlots -/

@[simp] theorem State.setSlots_pending (s : State) (l : List TableSlot) : (s.setSlots l).pending = s.pending := rfl
@[simp] theorem State.setSlots_time (s : State) (l : List TableSlot) : (s.setSlots l).time = s.time := rfl
@[simp] theorem State.setSlots_free (s : State) (l : List TableSlot) : (s.setSlots l).free = s.free := rfl
@[simp] theorem State.setSlots_ctr (s : State) (l : List TableSlot) : (s.setSlots l).ctr = s.ctr := rfl
@[simp] theorem State.setSlots_obj (s : State) (l : List TableSlot) : (s.setSlots l).obj = s.obj := rfl
@[simp] theorem State.setSlots_mem (s : State) (l : List TableSlot) : (s.setSlots l).mem = s.mem := rfl
@[simp] theorem State.setSlots_ue (s : State) (l : List TableSlot) : (s.setSlots l).ue = s.ue := rfl
@[simp] theorem State.setSlots_cores (s : State) (l : List TableSlot) : (s.setSlots l).cores = s.cores := rfl
@[simp] theorem State.setSlots_sched (s : State) (l : List TableSlot) : (s.setSlots l).sched = s.sched := rfl
@[simp] theorem State.setSlots_memsys (s : State) (l : List TableSlot) : (s.setSlots l).memsys = s.memsys := rfl
@[simp] theorem State.setSlots_net (s : State) (l : List TableSlot) : (s.setSlots l).net = s.net := rfl
@[simp] theorem State.setSlots_seats (s : State) (l : List TableSlot) : (s.setSlots l).seats = s.seats := rfl
@[simp] theorem State.setSlots_pkg (s : State) (l : List TableSlot) : (s.setSlots l).pkg = s.pkg := rfl
@[simp] theorem State.setSlots_log (s : State) (l : List TableSlot) : (s.setSlots l).log = s.log := rfl
@[simp] theorem State.setSlots_fab (s : State) (l : List TableSlot) : (s.setSlots l).fab = s.fab := rfl
@[simp] theorem State.setSlots_plan (s : State) (l : List TableSlot) : (s.setSlots l).plan = s.plan := rfl
@[simp] theorem State.setSlots_bg (s : State) (l : List TableSlot) : (s.setSlots l).bg = s.bg := rfl
@[simp] theorem State.setSlots_contests (s : State) (l : List TableSlot) : (s.setSlots l).contests = s.contests := rfl
@[simp] theorem State.setSlots_codec (s : State) (l : List TableSlot) : (s.setSlots l).codec = { s.codec with slots := l } := rfl
@[simp] theorem State.setSlots_intake (s : State) (l : List TableSlot) : (s.setSlots l).intake = s.intake := rfl
@[simp] theorem State.setSlots_sec (s : State) (l : List TableSlot) : (s.setSlots l).sec = s.sec := rfl

/-! ## State.setTenon -/

@[simp] theorem State.setTenon_pending (s : State) (n : Nat) (x : Tenon) : (s.setTenon n x).pending = s.pending := rfl
@[simp] theorem State.setTenon_time (s : State) (n : Nat) (x : Tenon) : (s.setTenon n x).time = s.time := rfl
@[simp] theorem State.setTenon_free (s : State) (n : Nat) (x : Tenon) : (s.setTenon n x).free = s.free := rfl
@[simp] theorem State.setTenon_ctr (s : State) (n : Nat) (x : Tenon) : (s.setTenon n x).ctr = s.ctr := rfl
@[simp] theorem State.setTenon_obj (s : State) (n : Nat) (x : Tenon) : (s.setTenon n x).obj = s.obj := rfl
@[simp] theorem State.setTenon_mem (s : State) (n : Nat) (x : Tenon) : (s.setTenon n x).mem = s.mem := rfl
@[simp] theorem State.setTenon_ue (s : State) (n : Nat) (x : Tenon) : (s.setTenon n x).ue = s.ue := rfl
@[simp] theorem State.setTenon_cores (s : State) (n : Nat) (x : Tenon) : (s.setTenon n x).cores = s.cores := rfl
@[simp] theorem State.setTenon_sched (s : State) (n : Nat) (x : Tenon) : (s.setTenon n x).sched = s.sched := rfl
@[simp] theorem State.setTenon_memsys (s : State) (n : Nat) (x : Tenon) : (s.setTenon n x).memsys = s.memsys := rfl
@[simp] theorem State.setTenon_net (s : State) (n : Nat) (x : Tenon) : (s.setTenon n x).net = s.net := rfl
@[simp] theorem State.setTenon_seats (s : State) (n : Nat) (x : Tenon) : (s.setTenon n x).seats = s.seats := rfl
@[simp] theorem State.setTenon_pkg (s : State) (n : Nat) (x : Tenon) : (s.setTenon n x).pkg = { s.pkg with links := smSet {} s.pkg.links n x } := rfl
@[simp] theorem State.setTenon_log (s : State) (n : Nat) (x : Tenon) : (s.setTenon n x).log = s.log := rfl
@[simp] theorem State.setTenon_fab (s : State) (n : Nat) (x : Tenon) : (s.setTenon n x).fab = s.fab := rfl
@[simp] theorem State.setTenon_plan (s : State) (n : Nat) (x : Tenon) : (s.setTenon n x).plan = s.plan := rfl
@[simp] theorem State.setTenon_bg (s : State) (n : Nat) (x : Tenon) : (s.setTenon n x).bg = s.bg := rfl
@[simp] theorem State.setTenon_contests (s : State) (n : Nat) (x : Tenon) : (s.setTenon n x).contests = s.contests := rfl
@[simp] theorem State.setTenon_codec (s : State) (n : Nat) (x : Tenon) : (s.setTenon n x).codec = s.codec := rfl
@[simp] theorem State.setTenon_intake (s : State) (n : Nat) (x : Tenon) : (s.setTenon n x).intake = s.intake := rfl
@[simp] theorem State.setTenon_sec (s : State) (n : Nat) (x : Tenon) : (s.setTenon n x).sec = s.sec := rfl

/-! ## State.modPlan -/

@[simp] theorem State.modPlan_pending (s : State) (f : Planer → Planer) : (s.modPlan f).pending = s.pending := rfl
@[simp] theorem State.modPlan_time (s : State) (f : Planer → Planer) : (s.modPlan f).time = s.time := rfl
@[simp] theorem State.modPlan_free (s : State) (f : Planer → Planer) : (s.modPlan f).free = s.free := rfl
@[simp] theorem State.modPlan_ctr (s : State) (f : Planer → Planer) : (s.modPlan f).ctr = s.ctr := rfl
@[simp] theorem State.modPlan_obj (s : State) (f : Planer → Planer) : (s.modPlan f).obj = s.obj := rfl
@[simp] theorem State.modPlan_mem (s : State) (f : Planer → Planer) : (s.modPlan f).mem = s.mem := rfl
@[simp] theorem State.modPlan_ue (s : State) (f : Planer → Planer) : (s.modPlan f).ue = s.ue := rfl
@[simp] theorem State.modPlan_cores (s : State) (f : Planer → Planer) : (s.modPlan f).cores = s.cores := rfl
@[simp] theorem State.modPlan_sched (s : State) (f : Planer → Planer) : (s.modPlan f).sched = s.sched := rfl
@[simp] theorem State.modPlan_memsys (s : State) (f : Planer → Planer) : (s.modPlan f).memsys = s.memsys := rfl
@[simp] theorem State.modPlan_net (s : State) (f : Planer → Planer) : (s.modPlan f).net = s.net := rfl
@[simp] theorem State.modPlan_seats (s : State) (f : Planer → Planer) : (s.modPlan f).seats = s.seats := rfl
@[simp] theorem State.modPlan_pkg (s : State) (f : Planer → Planer) : (s.modPlan f).pkg = s.pkg := rfl
@[simp] theorem State.modPlan_log (s : State) (f : Planer → Planer) : (s.modPlan f).log = s.log := rfl
@[simp] theorem State.modPlan_fab (s : State) (f : Planer → Planer) : (s.modPlan f).fab = s.fab := rfl
@[simp] theorem State.modPlan_plan (s : State) (f : Planer → Planer) : (s.modPlan f).plan = f s.plan := rfl
@[simp] theorem State.modPlan_bg (s : State) (f : Planer → Planer) : (s.modPlan f).bg = s.bg := rfl
@[simp] theorem State.modPlan_contests (s : State) (f : Planer → Planer) : (s.modPlan f).contests = s.contests := rfl
@[simp] theorem State.modPlan_codec (s : State) (f : Planer → Planer) : (s.modPlan f).codec = s.codec := rfl
@[simp] theorem State.modPlan_intake (s : State) (f : Planer → Planer) : (s.modPlan f).intake = s.intake := rfl
@[simp] theorem State.modPlan_sec (s : State) (f : Planer → Planer) : (s.modPlan f).sec = s.sec := rfl

/-! ## State.modDv -/

@[simp] theorem State.modDv_pending (s : State) (p : Nat) (f : DvPort → DvPort) : (s.modDv p f).pending = s.pending := rfl
@[simp] theorem State.modDv_time (s : State) (p : Nat) (f : DvPort → DvPort) : (s.modDv p f).time = s.time := rfl
@[simp] theorem State.modDv_free (s : State) (p : Nat) (f : DvPort → DvPort) : (s.modDv p f).free = s.free := rfl
@[simp] theorem State.modDv_ctr (s : State) (p : Nat) (f : DvPort → DvPort) : (s.modDv p f).ctr = s.ctr := rfl
@[simp] theorem State.modDv_obj (s : State) (p : Nat) (f : DvPort → DvPort) : (s.modDv p f).obj = s.obj := rfl
@[simp] theorem State.modDv_mem (s : State) (p : Nat) (f : DvPort → DvPort) : (s.modDv p f).mem = s.mem := rfl
@[simp] theorem State.modDv_ue (s : State) (p : Nat) (f : DvPort → DvPort) : (s.modDv p f).ue = s.ue := rfl
@[simp] theorem State.modDv_cores (s : State) (p : Nat) (f : DvPort → DvPort) : (s.modDv p f).cores = s.cores := rfl
@[simp] theorem State.modDv_sched (s : State) (p : Nat) (f : DvPort → DvPort) : (s.modDv p f).sched = s.sched := rfl
@[simp] theorem State.modDv_memsys (s : State) (p : Nat) (f : DvPort → DvPort) : (s.modDv p f).memsys = s.memsys := rfl
@[simp] theorem State.modDv_net (s : State) (p : Nat) (f : DvPort → DvPort) : (s.modDv p f).net = s.net := rfl
@[simp] theorem State.modDv_seats (s : State) (p : Nat) (f : DvPort → DvPort) : (s.modDv p f).seats = s.seats := rfl
@[simp] theorem State.modDv_pkg (s : State) (p : Nat) (f : DvPort → DvPort) : (s.modDv p f).pkg = s.pkg := rfl
@[simp] theorem State.modDv_log (s : State) (p : Nat) (f : DvPort → DvPort) : (s.modDv p f).log = s.log := rfl
@[simp] theorem State.modDv_fab (s : State) (p : Nat) (f : DvPort → DvPort) : (s.modDv p f).fab = { s.fab with ports := modNth s.fab.ports p f } := rfl
@[simp] theorem State.modDv_plan (s : State) (p : Nat) (f : DvPort → DvPort) : (s.modDv p f).plan = s.plan := rfl
@[simp] theorem State.modDv_bg (s : State) (p : Nat) (f : DvPort → DvPort) : (s.modDv p f).bg = s.bg := rfl
@[simp] theorem State.modDv_contests (s : State) (p : Nat) (f : DvPort → DvPort) : (s.modDv p f).contests = s.contests := rfl
@[simp] theorem State.modDv_codec (s : State) (p : Nat) (f : DvPort → DvPort) : (s.modDv p f).codec = s.codec := rfl
@[simp] theorem State.modDv_intake (s : State) (p : Nat) (f : DvPort → DvPort) : (s.modDv p f).intake = s.intake := rfl
@[simp] theorem State.modDv_sec (s : State) (p : Nat) (f : DvPort → DvPort) : (s.modDv p f).sec = s.sec := rfl

/-! ## State.modPair -/

@[simp] theorem State.modPair_pending (s : State) (f : Pair → Pair) : (s.modPair f).pending = s.pending := rfl
@[simp] theorem State.modPair_time (s : State) (f : Pair → Pair) : (s.modPair f).time = s.time := rfl
@[simp] theorem State.modPair_free (s : State) (f : Pair → Pair) : (s.modPair f).free = s.free := rfl
@[simp] theorem State.modPair_ctr (s : State) (f : Pair → Pair) : (s.modPair f).ctr = s.ctr := rfl
@[simp] theorem State.modPair_obj (s : State) (f : Pair → Pair) : (s.modPair f).obj = s.obj := rfl
@[simp] theorem State.modPair_mem (s : State) (f : Pair → Pair) : (s.modPair f).mem = s.mem := rfl
@[simp] theorem State.modPair_ue (s : State) (f : Pair → Pair) : (s.modPair f).ue = s.ue := rfl
@[simp] theorem State.modPair_cores (s : State) (f : Pair → Pair) : (s.modPair f).cores = s.cores := rfl
@[simp] theorem State.modPair_sched (s : State) (f : Pair → Pair) : (s.modPair f).sched = s.sched := rfl
@[simp] theorem State.modPair_memsys (s : State) (f : Pair → Pair) : (s.modPair f).memsys = s.memsys := rfl
@[simp] theorem State.modPair_net (s : State) (f : Pair → Pair) : (s.modPair f).net = s.net := rfl
@[simp] theorem State.modPair_seats (s : State) (f : Pair → Pair) : (s.modPair f).seats = s.seats := rfl
@[simp] theorem State.modPair_pkg (s : State) (f : Pair → Pair) : (s.modPair f).pkg = s.pkg := rfl
@[simp] theorem State.modPair_log (s : State) (f : Pair → Pair) : (s.modPair f).log = s.log := rfl
@[simp] theorem State.modPair_fab (s : State) (f : Pair → Pair) : (s.modPair f).fab = { s.fab with pair := f s.fab.pair } := rfl
@[simp] theorem State.modPair_plan (s : State) (f : Pair → Pair) : (s.modPair f).plan = s.plan := rfl
@[simp] theorem State.modPair_bg (s : State) (f : Pair → Pair) : (s.modPair f).bg = s.bg := rfl
@[simp] theorem State.modPair_contests (s : State) (f : Pair → Pair) : (s.modPair f).contests = s.contests := rfl
@[simp] theorem State.modPair_codec (s : State) (f : Pair → Pair) : (s.modPair f).codec = s.codec := rfl
@[simp] theorem State.modPair_intake (s : State) (f : Pair → Pair) : (s.modPair f).intake = s.intake := rfl
@[simp] theorem State.modPair_sec (s : State) (f : Pair → Pair) : (s.modPair f).sec = s.sec := rfl

/-! ## State.setIstream -/

@[simp] theorem State.setIstream_pending (s : State) (k : Nat) (x : IStream) : (s.setIstream k x).pending = s.pending := rfl
@[simp] theorem State.setIstream_time (s : State) (k : Nat) (x : IStream) : (s.setIstream k x).time = s.time := rfl
@[simp] theorem State.setIstream_free (s : State) (k : Nat) (x : IStream) : (s.setIstream k x).free = s.free := rfl
@[simp] theorem State.setIstream_ctr (s : State) (k : Nat) (x : IStream) : (s.setIstream k x).ctr = s.ctr := rfl
@[simp] theorem State.setIstream_obj (s : State) (k : Nat) (x : IStream) : (s.setIstream k x).obj = s.obj := rfl
@[simp] theorem State.setIstream_mem (s : State) (k : Nat) (x : IStream) : (s.setIstream k x).mem = s.mem := rfl
@[simp] theorem State.setIstream_ue (s : State) (k : Nat) (x : IStream) : (s.setIstream k x).ue = s.ue := rfl
@[simp] theorem State.setIstream_cores (s : State) (k : Nat) (x : IStream) : (s.setIstream k x).cores = s.cores := rfl
@[simp] theorem State.setIstream_sched (s : State) (k : Nat) (x : IStream) : (s.setIstream k x).sched = s.sched := rfl
@[simp] theorem State.setIstream_memsys (s : State) (k : Nat) (x : IStream) : (s.setIstream k x).memsys = s.memsys := rfl
@[simp] theorem State.setIstream_net (s : State) (k : Nat) (x : IStream) : (s.setIstream k x).net = s.net := rfl
@[simp] theorem State.setIstream_seats (s : State) (k : Nat) (x : IStream) : (s.setIstream k x).seats = s.seats := rfl
@[simp] theorem State.setIstream_pkg (s : State) (k : Nat) (x : IStream) : (s.setIstream k x).pkg = s.pkg := rfl
@[simp] theorem State.setIstream_log (s : State) (k : Nat) (x : IStream) : (s.setIstream k x).log = s.log := rfl
@[simp] theorem State.setIstream_fab (s : State) (k : Nat) (x : IStream) : (s.setIstream k x).fab = s.fab := rfl
@[simp] theorem State.setIstream_plan (s : State) (k : Nat) (x : IStream) : (s.setIstream k x).plan = s.plan := rfl
@[simp] theorem State.setIstream_bg (s : State) (k : Nat) (x : IStream) : (s.setIstream k x).bg = s.bg := rfl
@[simp] theorem State.setIstream_contests (s : State) (k : Nat) (x : IStream) : (s.setIstream k x).contests = s.contests := rfl
@[simp] theorem State.setIstream_codec (s : State) (k : Nat) (x : IStream) : (s.setIstream k x).codec = s.codec := rfl
@[simp] theorem State.setIstream_intake (s : State) (k : Nat) (x : IStream) : (s.setIstream k x).intake = { s.intake with streams := smSet {} s.intake.streams k x } := rfl
@[simp] theorem State.setIstream_sec (s : State) (k : Nat) (x : IStream) : (s.setIstream k x).sec = s.sec := rfl

/-! ## State.modBatch -/

@[simp] theorem State.modBatch_pending (s : State) (id : Nat) (f : Batch → Batch) : (s.modBatch id f).pending = s.pending := rfl
@[simp] theorem State.modBatch_time (s : State) (id : Nat) (f : Batch → Batch) : (s.modBatch id f).time = s.time := rfl
@[simp] theorem State.modBatch_free (s : State) (id : Nat) (f : Batch → Batch) : (s.modBatch id f).free = s.free := rfl
@[simp] theorem State.modBatch_ctr (s : State) (id : Nat) (f : Batch → Batch) : (s.modBatch id f).ctr = s.ctr := rfl
@[simp] theorem State.modBatch_obj (s : State) (id : Nat) (f : Batch → Batch) : (s.modBatch id f).obj = s.obj := rfl
@[simp] theorem State.modBatch_mem (s : State) (id : Nat) (f : Batch → Batch) : (s.modBatch id f).mem = s.mem := rfl
@[simp] theorem State.modBatch_ue (s : State) (id : Nat) (f : Batch → Batch) : (s.modBatch id f).ue = s.ue := rfl
@[simp] theorem State.modBatch_cores (s : State) (id : Nat) (f : Batch → Batch) : (s.modBatch id f).cores = s.cores := rfl
@[simp] theorem State.modBatch_sched (s : State) (id : Nat) (f : Batch → Batch) : (s.modBatch id f).sched = s.sched := rfl
@[simp] theorem State.modBatch_memsys (s : State) (id : Nat) (f : Batch → Batch) : (s.modBatch id f).memsys = s.memsys := rfl
@[simp] theorem State.modBatch_net (s : State) (id : Nat) (f : Batch → Batch) : (s.modBatch id f).net = s.net := rfl
@[simp] theorem State.modBatch_seats (s : State) (id : Nat) (f : Batch → Batch) : (s.modBatch id f).seats = s.seats := rfl
@[simp] theorem State.modBatch_pkg (s : State) (id : Nat) (f : Batch → Batch) : (s.modBatch id f).pkg = s.pkg := rfl
@[simp] theorem State.modBatch_log (s : State) (id : Nat) (f : Batch → Batch) : (s.modBatch id f).log = s.log := rfl
@[simp] theorem State.modBatch_fab (s : State) (id : Nat) (f : Batch → Batch) : (s.modBatch id f).fab = s.fab := rfl
@[simp] theorem State.modBatch_plan (s : State) (id : Nat) (f : Batch → Batch) : (s.modBatch id f).plan = s.plan := rfl
@[simp] theorem State.modBatch_bg (s : State) (id : Nat) (f : Batch → Batch) : (s.modBatch id f).bg = s.bg := rfl
@[simp] theorem State.modBatch_contests (s : State) (id : Nat) (f : Batch → Batch) : (s.modBatch id f).contests = s.contests := rfl
@[simp] theorem State.modBatch_codec (s : State) (id : Nat) (f : Batch → Batch) : (s.modBatch id f).codec = s.codec := rfl
@[simp] theorem State.modBatch_intake (s : State) (id : Nat) (f : Batch → Batch) : (s.modBatch id f).intake = { s.intake with batches := mapIf (fun b => b.flight == id) f s.intake.batches } := rfl
@[simp] theorem State.modBatch_sec (s : State) (id : Nat) (f : Batch → Batch) : (s.modBatch id f).sec = s.sec := rfl

/-! ## State.setSiteCh -/

@[simp] theorem State.setSiteCh_pending (s : State) (ch : Nat) (x : SiteCh) : (s.setSiteCh ch x).pending = s.pending := rfl
@[simp] theorem State.setSiteCh_time (s : State) (ch : Nat) (x : SiteCh) : (s.setSiteCh ch x).time = s.time := rfl
@[simp] theorem State.setSiteCh_free (s : State) (ch : Nat) (x : SiteCh) : (s.setSiteCh ch x).free = s.free := rfl
@[simp] theorem State.setSiteCh_ctr (s : State) (ch : Nat) (x : SiteCh) : (s.setSiteCh ch x).ctr = s.ctr := rfl
@[simp] theorem State.setSiteCh_obj (s : State) (ch : Nat) (x : SiteCh) : (s.setSiteCh ch x).obj = s.obj := rfl
@[simp] theorem State.setSiteCh_mem (s : State) (ch : Nat) (x : SiteCh) : (s.setSiteCh ch x).mem = s.mem := rfl
@[simp] theorem State.setSiteCh_ue (s : State) (ch : Nat) (x : SiteCh) : (s.setSiteCh ch x).ue = s.ue := rfl
@[simp] theorem State.setSiteCh_cores (s : State) (ch : Nat) (x : SiteCh) : (s.setSiteCh ch x).cores = s.cores := rfl
@[simp] theorem State.setSiteCh_sched (s : State) (ch : Nat) (x : SiteCh) : (s.setSiteCh ch x).sched = s.sched := rfl
@[simp] theorem State.setSiteCh_memsys (s : State) (ch : Nat) (x : SiteCh) : (s.setSiteCh ch x).memsys = s.memsys := rfl
@[simp] theorem State.setSiteCh_net (s : State) (ch : Nat) (x : SiteCh) : (s.setSiteCh ch x).net = s.net := rfl
@[simp] theorem State.setSiteCh_seats (s : State) (ch : Nat) (x : SiteCh) : (s.setSiteCh ch x).seats = s.seats := rfl
@[simp] theorem State.setSiteCh_pkg (s : State) (ch : Nat) (x : SiteCh) : (s.setSiteCh ch x).pkg = { s.pkg with site := smSet {} s.pkg.site ch x } := rfl
@[simp] theorem State.setSiteCh_log (s : State) (ch : Nat) (x : SiteCh) : (s.setSiteCh ch x).log = s.log := rfl
@[simp] theorem State.setSiteCh_fab (s : State) (ch : Nat) (x : SiteCh) : (s.setSiteCh ch x).fab = s.fab := rfl
@[simp] theorem State.setSiteCh_plan (s : State) (ch : Nat) (x : SiteCh) : (s.setSiteCh ch x).plan = s.plan := rfl
@[simp] theorem State.setSiteCh_bg (s : State) (ch : Nat) (x : SiteCh) : (s.setSiteCh ch x).bg = s.bg := rfl
@[simp] theorem State.setSiteCh_contests (s : State) (ch : Nat) (x : SiteCh) : (s.setSiteCh ch x).contests = s.contests := rfl
@[simp] theorem State.setSiteCh_codec (s : State) (ch : Nat) (x : SiteCh) : (s.setSiteCh ch x).codec = s.codec := rfl
@[simp] theorem State.setSiteCh_intake (s : State) (ch : Nat) (x : SiteCh) : (s.setSiteCh ch x).intake = s.intake := rfl
@[simp] theorem State.setSiteCh_sec (s : State) (ch : Nat) (x : SiteCh) : (s.setSiteCh ch x).sec = s.sec := rfl

/-! ## State.setTenonPath -/

@[simp] theorem State.setTenonPath_pending (s : State) (a b : Nat) (x : TenonPath) : (s.setTenonPath a b x).pending = s.pending := rfl
@[simp] theorem State.setTenonPath_time (s : State) (a b : Nat) (x : TenonPath) : (s.setTenonPath a b x).time = s.time := rfl
@[simp] theorem State.setTenonPath_free (s : State) (a b : Nat) (x : TenonPath) : (s.setTenonPath a b x).free = s.free := rfl
@[simp] theorem State.setTenonPath_ctr (s : State) (a b : Nat) (x : TenonPath) : (s.setTenonPath a b x).ctr = s.ctr := rfl
@[simp] theorem State.setTenonPath_obj (s : State) (a b : Nat) (x : TenonPath) : (s.setTenonPath a b x).obj = s.obj := rfl
@[simp] theorem State.setTenonPath_mem (s : State) (a b : Nat) (x : TenonPath) : (s.setTenonPath a b x).mem = s.mem := rfl
@[simp] theorem State.setTenonPath_ue (s : State) (a b : Nat) (x : TenonPath) : (s.setTenonPath a b x).ue = s.ue := rfl
@[simp] theorem State.setTenonPath_cores (s : State) (a b : Nat) (x : TenonPath) : (s.setTenonPath a b x).cores = s.cores := rfl
@[simp] theorem State.setTenonPath_sched (s : State) (a b : Nat) (x : TenonPath) : (s.setTenonPath a b x).sched = s.sched := rfl
@[simp] theorem State.setTenonPath_memsys (s : State) (a b : Nat) (x : TenonPath) : (s.setTenonPath a b x).memsys = s.memsys := rfl
@[simp] theorem State.setTenonPath_net (s : State) (a b : Nat) (x : TenonPath) : (s.setTenonPath a b x).net = s.net := rfl
@[simp] theorem State.setTenonPath_seats (s : State) (a b : Nat) (x : TenonPath) : (s.setTenonPath a b x).seats = s.seats := rfl
@[simp] theorem State.setTenonPath_pkg (s : State) (a b : Nat) (x : TenonPath) : (s.setTenonPath a b x).pkg = { s.pkg with paths := smSet {} s.pkg.paths (a * 16 + b) x } := rfl
@[simp] theorem State.setTenonPath_log (s : State) (a b : Nat) (x : TenonPath) : (s.setTenonPath a b x).log = s.log := rfl
@[simp] theorem State.setTenonPath_fab (s : State) (a b : Nat) (x : TenonPath) : (s.setTenonPath a b x).fab = s.fab := rfl
@[simp] theorem State.setTenonPath_plan (s : State) (a b : Nat) (x : TenonPath) : (s.setTenonPath a b x).plan = s.plan := rfl
@[simp] theorem State.setTenonPath_bg (s : State) (a b : Nat) (x : TenonPath) : (s.setTenonPath a b x).bg = s.bg := rfl
@[simp] theorem State.setTenonPath_contests (s : State) (a b : Nat) (x : TenonPath) : (s.setTenonPath a b x).contests = s.contests := rfl
@[simp] theorem State.setTenonPath_codec (s : State) (a b : Nat) (x : TenonPath) : (s.setTenonPath a b x).codec = s.codec := rfl
@[simp] theorem State.setTenonPath_intake (s : State) (a b : Nat) (x : TenonPath) : (s.setTenonPath a b x).intake = s.intake := rfl
@[simp] theorem State.setTenonPath_sec (s : State) (a b : Nat) (x : TenonPath) : (s.setTenonPath a b x).sec = s.sec := rfl

end Sys2Proof.Machine
end

