-- ==== Sys2Proof/Tests/Slice0.lean ====
section
/-! SUPPORT. Tests: the checks of well-formedness refuse ill-formed commands; for every statement a state and operands that
meet its hypotheses; a few single steps with results worked out from the spec. -/

set_option Elab.async false

namespace Sys2Proof.Tests

open Sys2Proof.Machine

/-! ## Small states -/

/-- A device that has booted, with some objects set. -/
def up (l : List (Nat × Nat × Nat)) : State :=
  l.foldl (fun s p => s.set p.1 p.2.1 p.2.2)
    { State.reset with pkg := { State.reset.pkg with booted := true, resetHeld := false } }

/-- One in S2, with its host port up. -/
def inS2 (l : List (Nat × Nat × Nat)) : State :=
  let s := up ((0x2000, 1, 4) :: (0x3001, 1, 2) :: l)
  { s with net := { s.net with linkUp := true } }

/-- A tensor descriptor: format, space, rank, address, four extents, three strides; a BF16 one has a sidecar (bit 384). -/
def ten (fmt space rank addr : Nat) (exts strides : List Nat) : Nat :=
  fmt + space * 16 + rank * 64 + addr * 256
    + (exts.zipIdx.map fun p => p.1 * 2 ^ (48 + 32 * p.2)).foldl (· + ·) 0
    + (strides.zipIdx.map fun p => p.1 * 2 ^ (176 + 32 * p.2)).foldl (· + ·) 0
    + (if fmt = 5 then 2 ^ 384 + 4096 * 2 ^ 342 else 0)

/-- The tensors 1 to 12 of the tests, all in SLICE, of one element or of two. -/
def tensors : List (Nat × Nat) :=
  [(1, ten 4 0 1 0 [1, 1] [1]), (2, ten 4 0 1 64 [1, 1] [1]), (3, ten 6 0 1 128 [1, 1] [1]),
   (4, ten 4 0 3 0 [1, 1, 1, 1] [1, 1, 1]), (5, ten 4 0 3 64 [1, 1, 1, 1] [1, 1, 1]),
   (6, ten 6 0 3 128 [1, 1, 1, 1] [1, 1, 1]), (7, ten 6 0 3 192 [1, 1, 1, 1] [1, 1, 1]),
   (8, ten 6 0 1 256 [2, 1] [2]), (9, ten 9 0 1 320 [1, 1] [1]), (10, ten 5 0 1 384 [1, 1] [1]),
   (11, ten 3 0 1 448 [2, 1] [2]), (12, ten 6 0 1 512 [1, 1] [1])]

/-- Context 1 READY, bound to model 0 in slot 3: a partition of 1 MiB, the cores of group 39, the core sets 0 (core 79,999)
and 1 (every core of group 39). -/
def ctx1 : Ctx :=
  { noCtx with phase := .ready, record := 1 + 3 * 2 ^ 16 + 2 ^ (264 + 39), partBase := 2 ^ 28, partSize := 2 ^ 20,
               poolSize := 4096, tensors := tensors,
               coresets := [(0, 79999 + 2 ^ 32), (1, 78000 + 2000 * 2 ^ 32 + 2 ^ 64)] }

/-- A state in S2 with that context, and nothing else under way. -/
def ready : State :=
  let s := inS2 []
  { s with sched := { s.sched with ctxs := modNth s.sched.ctxs 1 fun _ => ctx1 } }

/-- A core command's descriptor on core set 0: its four tensors, its layer 3, its further fields. -/
def cmd (a b c d rest : Nat) : Desc :=
  BitVec.ofNat 512 (a * 2 ^ 8 + b * 2 ^ 20 + c * 2 ^ 32 + d * 2 ^ 44 + 3 * 2 ^ 80 + rest)

/-- Its dispatch, with the engine code 0 of the cores in its header. -/
def disp (desc : Desc) : Dispatch := { ctx := 1, stream := 7, listTag := 9, entry := 2, hdr := 0, desc := desc, env := {} }

/-- `CoreReady`, computed. -/
def coreReadyB (s : State) (d : Dispatch) (desc : Desc) : Bool :=
  let cores := s.coresOf d.ctx desc
  s.mayDispatch d.ctx && hdrOk d.hdr 0 && descOk desc.toNat ((taken s d desc).ctx d.ctx).tensors
    && (taken s d desc).setOk d.ctx cores && !cores.any (s.coreWaits d.ctx)
    && !(cores.zipIdx.any fun p => s.slotWaits d.ctx desc.toNat p.1 p.2)

theorem coreReady_of (s : State) (d : Dispatch) (desc : Desc) (h : coreReadyB s d desc = true) : CoreReady s d desc := by
  simp only [coreReadyB, Bool.and_eq_true, Bool.not_eq_true'] at h
  exact ⟨⟨h.1.1.1.1.1, h.1.1.1.1.2, h.1.1.1.2, h.1.1.2⟩, h.1.2, h.2⟩

/-- A core command that is ready and of no frozen layer. -/
abbrev goes (s : State) (d : Dispatch) (desc : Desc) : Prop :=
  coreReadyB s d desc = true ∧ (bit d.hdr 3 && (taken s d desc).frozen d.ctx (Cmd.layer desc.toNat)) = false

/-- Such a one is ready, and no entry of a frozen layer: what the statements about core commands ask. -/
theorem goes_ready (s : State) (d : Dispatch) (desc : Desc) (h : goes s d desc) : CoreReady s d desc ∧ ¬ FrozenEntry s d desc :=
  ⟨coreReady_of s d desc h.1, by simp only [FrozenEntry, h.2]; decide⟩

/-- A sparse list without entries is canonical, and no counter of it reads more than its largest value. -/
theorem countersBounded_nil (s : State) (h : s.ctr = []) : CountersBounded s := by
  intro i k; simp [State.ctrAt, h, smGet]

theorem canonical_of (s : State) (h : (Memory.wf s.mem && smWf false s.ue && smWf 0 s.obj && smWf 0 s.ctr) = true) :
    Canonical s := by
  simp only [Bool.and_eq_true] at h
  exact ⟨h.1.1.1, h.1.1.2, h.1.2, h.2⟩

/-! ## The block -/

theorem witness_idle_step : Idle State.reset ∧ State.reset.log.ring.length < 262144 ∧ State.reset.sec.blow = none
    ∧ State.reset.sched.lists = [] := ⟨rfl, by decide +kernel, rfl, rfl⟩

theorem witness_every_step : Canonical { inS2 [] with pending := [.refClockEvent 2] }
    ∧ ∃ t, step { inS2 [] with pending := [.refClockEvent 2] } = .next t := ⟨canonical_of _ (by decide +kernel), _, rfl⟩

/-! ## Core commands -/

/-- MATMUL, CONV, CONV_GROUPED and the poolings on operands they take. -/
theorem witness_matrix_and_window :
    goes ready (disp (cmd 1 2 3 0xFFF 0)) (force (cmd 1 2 3 0xFFF 0) 7 0 1)
    ∧ (let d := cmd 4 5 6 0xFFF (2 ^ 256 + 2 ^ 264 + 2 ^ 272 + 2 ^ 280); goes ready (disp d) (force d 7 0 2))
    ∧ (let d := cmd 6 7 6 0xFFF (2 ^ 256 + 2 ^ 264 + 2 ^ 272 + 2 ^ 280 + 2 ^ 312); goes ready (disp d) (force d 7 0 3))
    ∧ (let d := cmd 6 0xFFF 7 0xFFF (2 ^ 256 + 2 ^ 264 + 2 ^ 272 + 2 ^ 280 + 2 ^ 328 + 2 ^ 336)
       ∀ op < 3, goes ready (disp d) (force (force d 7 0 4) 345 344 op)) := by decide +kernel

/-- The forward VECTOR operations without a side code; GELU and SILU with one in TD. -/
theorem witness_vector :
    (∀ op ∈ [0, 1, 2, 3, 4, 5, 6, 7, 8, 9, 10, 11, 12, 13, 14, 15, 0x18, 0x19, 0x1A],
      goes ready (disp (cmd 3 12 3 0xFFF 0)) (force (force (cmd 3 12 3 0xFFF 0) 7 0 5) 102 96 op))
    ∧ (∀ op ∈ [16, 17], goes ready (disp (cmd 3 12 3 9 0)) (force (force (cmd 3 12 3 9 0) 7 0 5) 102 96 op)) := by decide +kernel

/-- The backward VECTOR operations, with a second operand or a side code, DROPOUT and MASK_ROWS. -/
theorem witness_backward :
    (∀ op ∈ [0x20, 0x21, 0x22, 0x23, 0x24, 0x25, 0x26],
      goes ready (disp (cmd 10 10 10 0xFFF 0)) (force (force (cmd 10 10 10 0xFFF 0) 7 0 5) 102 96 op))
    ∧ (∀ op ∈ [0x27, 0x28],
      goes ready (disp (cmd 10 0xFFF 10 9 0)) (force (force (cmd 10 0xFFF 10 9 0) 7 0 5) 102 96 op))
    ∧ goes ready (disp (cmd 3 0xFFF 3 0xFFF 0)) (force (force (cmd 3 0xFFF 3 0xFFF 0) 7 0 5) 102 96 0x29)
    ∧ goes ready (disp (cmd 3 0xFFF 3 9 0)) (force (force (cmd 3 0xFFF 3 9 0) 7 0 5) 102 96 0x2A) := by decide +kernel

/-- COPY, FILL and LOADREG; FILL of INT8 elements, which carries no block scales. -/
theorem witness_move :
    goes ready (disp (cmd 3 0xFFF 12 0xFFF 0)) (force (force (cmd 3 0xFFF 12 0xFFF 0) 7 0 6) 99 96 0)
    ∧ (let d := cmd 0xFFF 0xFFF 11 0xFFF 0
       let desc := force (force d 7 0 6) 99 96 1
       let c := openTensor (ready.view 1 79999 0) ⟨ready.mem, ready.ctr⟩ (Cmd.tc desc.toNat)
       goes ready (disp d) desc ∧ ready.coresOf 1 desc = [79999] ∧ c.fmt.bytes = 1 ∧ c.fmt ≠ .fp4 ∧ Ten.scaled c.d = false
        ∧ volume c.exts = 2)
    ∧ (let d := cmd 0xFFF 0xFFF 0xFFF 0xFFF (8 * 2 ^ 102 + 31 * 2 ^ 142)
       goes ready (disp d) (force d 7 0 8) ∧ ready.coresOf 1 (force d 7 0 8) = [79999]) := by decide +kernel

theorem noErrors_of (s : State) (h : (s.ue.isEmpty && s.memsys.lines.isEmpty && s.memsys.lost.isEmpty) = true) : NoErrors s := by
  simp only [Bool.and_eq_true, List.isEmpty_iff] at h
  exact ⟨h.1.1, by simp [h.1.2], h.2⟩

/-- The premises of the frames and of the barrier, on the state of the witnesses above; no merged list waits. -/
theorem witness_frames : Env.Healthy {} ∧ Canonical ready ∧ CountersBounded ready ∧ Clean ready (disp 0)
    ∧ smWf 0 ready.cores.regs = true ∧ smWf ([] : List Arrival) ready.cores.barriers = true ∧ FreshIds ready
    ∧ Unmerged ready (disp (cmd 1 2 3 0xFFF 0)) (force (cmd 1 2 3 0xFFF 0) 7 0 1) :=
  ⟨⟨rfl, rfl⟩, canonical_of _ (by decide +kernel), countersBounded_nil _ (by decide +kernel),
    ⟨noErrors_of _ (by decide +kernel), rfl, rfl⟩, by decide +kernel, by decide +kernel,
    ⟨by decide +kernel, by decide +kernel⟩, by unfold Unmerged; decide +kernel⟩

/-- Layer 3 of context 1 frozen, and entries whose header bit 3 says that they compute a weight gradient. -/
theorem witness_frozen_layer :
    let s := ready.set 0x4020 2 8
    let g (d : Desc) : Dispatch := { disp d with hdr := 8 }
    let w := 2 ^ 256 + 2 ^ 264 + 2 ^ 272 + 2 ^ 280
    let n := cmd 0xFFF 0xFFF 0xFFF 0xFFF (2 * 2 ^ 105 + 2 * 2 ^ 142)
    (coreReadyB s (g (cmd 1 2 3 0xFFF 0)) (force (cmd 1 2 3 0xFFF 0) 7 0 1)
      && coreReadyB s (g (cmd 4 5 6 0xFFF w)) (force (cmd 4 5 6 0xFFF w) 7 0 2)
      && coreReadyB s (g (cmd 6 7 6 0xFFF (w + 2 ^ 312))) (force (cmd 6 7 6 0xFFF (w + 2 ^ 312)) 7 0 3)
      && coreReadyB s (g (cmd 3 12 3 0xFFF 0)) (force (force (cmd 3 12 3 0xFFF 0) 7 0 5) 102 96 0x18)
      && coreReadyB s (g (cmd 3 0xFFF 12 0xFFF 0)) (force (force (cmd 3 0xFFF 12 0xFFF 0) 7 0 6) 99 96 0)
      && coreReadyB s (g (cmd 0xFFF 0xFFF 11 0xFFF 0)) (force (force (cmd 0xFFF 0xFFF 11 0xFFF 0) 7 0 6) 99 96 1)
      && coreReadyB s (g n) (force (cmd 0xFFF 0xFFF 0xFFF 0xFFF (2 * 2 ^ 142)) 7 0 8)
      && coreReadyB s (g n) (force (cmd 0xFFF 0xFFF 0xFFF 0xFFF (2 * 2 ^ 105)) 7 0 7)
      && s.frozen 1 3) = true := by decide +kernel

/-- A tensor number that no table holds fails the dispatch checks. -/
theorem witness_failed_check :
    let d := disp (cmd 0xFFE 2 3 0xFFF 0)
    let desc := force d.desc 7 0 1
    ready.mayDispatch d.ctx = true ∧ (hdrOk d.hdr 0 && descOk desc.toNat ((taken ready d desc).ctx d.ctx).tensors
      && (taken ready d desc).setOk d.ctx (ready.coresOf d.ctx desc)) = false := by decide +kernel

/-- The 2,000 cores of group 39 are every participant of context 1. -/
theorem witness_barrier_set : (∀ k ∈ participants (Rec.footprint ctx1.record), k ∈ coreSet (78000 + 2000 * 2 ^ 32 + 2 ^ 64))
    ∧ ready.arrivals 1 = [] := by
  have hp : ∀ g < 40, bit (Rec.footprint ctx1.record) g = decide (g = 39) := by decide +kernel
  have hs : coreSet (78000 + 2000 * 2 ^ 32 + 2 ^ 64) = (List.range 2000).map fun i => 78000 + i * 1 := by decide +kernel
  refine ⟨fun k hk => ?_, by decide +kernel⟩
  simp only [participants, List.mem_flatMap, List.mem_range] at hk
  obtain ⟨g, hg, hk⟩ := hk
  rw [hp g hg] at hk
  by_cases h39 : g = 39
  · subst h39
    simp only [decide_true, if_true, List.mem_map, List.mem_range] at hk
    obtain ⟨i, hi, rfl⟩ := hk
    rw [hs]; exact List.mem_map.2 ⟨i, List.mem_range.2 hi, by omega⟩
  · simp [h39] at hk


/-! ## Management -/

/-- S2 with a MANAGEMENT stream 100 that holds seat A, another, 200, that holds none, and objects set. -/
def mgmt (l : List (Nat × Nat × Nat)) : State :=
  let s := inS2 l
  let x : Strm := { phase := .opened }
  { s with net := { s.net with streams := [(100, x), (200, x)] }, seats := [{ bound := true, stream := 100 }, {}] }

/-- A WRITE of stream 100 to an object, with a value of `n` bytes. -/
def ask (i k n v : Nat) : Req :=
  { stream := 100, op := 2, tag := 5, index := i, sub := k, length := n, rsv := 0, value := leBytes n v, rivals := [] }

/-- The state in which a request's bytes stand on its stream. -/
def asked (s : State) (q : Req) : State := s.setStrm q.stream { s.strm q.stream with rxBytes := requestBytes q }

/-- READ, DESCRIBE and DESCRIBE_NEXT, the same with a reserved OP, and one that gives way to stream 200, which stands next. -/
theorem witness_reads :
    (∀ op ∈ [1, 3, 4], let q : Req := { ask 0x2000 1 0 0 with op := op }
      (asked (mgmt []) q).takes q op = true
      ∧ ∀ r ∈ [0, 7, 255], opReserved r = true ∧ (asked (mgmt []) { q with op := r }).takes { q with op := r } op = true)
    ∧ (let s := { mgmt [] with net := { (mgmt []).net with mgmtPtr := 101 } }
       s.onTurn { ask 0x2000 1 0 0 with op := 1, rivals := [200] } = false)
    ∧ (findRow 0x2000 1).isSome = true ∧ (mgmt []).serves 0x2000 = true := by decide +kernel

/-- The four refusals of a READ: framing by a reserved field or by LENGTH, an unknown index, an unknown subindex, and an
object that S0 does not serve. -/
theorem witness_read_refusals :
    ({ ask 0x2000 1 0 0 with rsv := 1 } : Req).rsv ≠ 0 ∧ (ask 0x2000 1 1 0).length ≠ 0 ∧ indexKnown 0xFFFF = false
    ∧ (indexKnown 0x2000 = true ∧ findRow 0x2000 255 = none)
    ∧ (indexKnown 0x4001 = true ∧ (findRow 0x4001 1).isSome = true ∧ (up []).serves 0x4001 = false) := by decide +kernel

theorem witness_describe_next : nextObject 0 = some 0x100001 ∧ nextObject 0xFFFFFF = none
    ∧ (nextObject (0x2000 * 256 + 1)).map (· / 256) = some 0x2000 ∧ (mgmt []).serves 0x2000 = true
    ∧ nextObject (0x4001 * 256 + 0) = some 0x400101 ∧ (up []).serves 0x4001 = false := by decide +kernel

/-- R16 on a command that timed out and lost a die. -/
theorem test_die_lost_explains_a_timeout : firstStatus [.timeout, .dieLost] = .dieLost := by decide

/-- BIND of each seat by stream 200, UNBIND of each seat, the idle limit of each seat. -/
theorem witness_seats :
    (∀ want < 2, let q : Req := { ask 0 0 24 want with stream := 200, op := 5 }
      let s := asked { mgmt [] with seats := [{}, {}] } q
      s.takes q 5 = true ∧ bindFormOk q = true ∧ leAt q.value 0 1 = want ∧ (s.heard q).seatOf 200 = none ∧ s.contests = []
        ∧ (s.heard q).seats.length = 2 ∧ ((s.heard q).seat want).bound = false)
    ∧ (∀ k < 2, let q : Req := { ask 0 0 0 0 with op := 6 }
      let s := asked { mgmt [] with seats := [{ bound := true, stream := 100 + 100 * k }, { bound := true, stream := 200 - 100 * k }] } q
      (s.heard q).seatOf 100 = some k ∧ s.takes q 6 = true)
    ∧ (∀ k < 2, let s := { mgmt [] with seats := [{ bound := true, stream := 100, limit := 9 }, { bound := true, stream := 200, limit := 9 }] }
      (s.seat k).bound = true ∧ (s.seat k).limit ≠ 0) := by decide +kernel

/-- Semaphores 0 and 255, free, held by the asker, held by the other seat. -/
theorem witness_semaphores :
    (∀ n ∈ [0, 255], ∀ v < 2, let q := toSub (ask 0 1 1 0) (0x7000 + n) 1 v
      ∀ holder < 3, let s := asked (mgmt [(0x7000 + n, 1, holder)]) q
      s.semHolder n = holder ∧ s.serves q.index = true ∧ s.takes (toSub q q.index 1 v) 2 = true ∧ s.seatOf q.stream = some 0
        ∧ s.contests = [])
    ∧ (mgmt []).contests.find? (fun c => c.1 == 255 && c.2.1 == 100) = none := by decide +kernel

/-- A write that stands on its stream and passes the checks of R401 with seat A. -/
abbrev writes (s : State) (q : Req) : Prop := ∃ r, WriteReady (asked s q) q r 0

theorem writes_of (s : State) (q : Req)
    (h : ((findRow q.index q.sub).any fun r => decide (WriteReady (asked s q) q r 0)) = true) : writes s q := by
  obtain ⟨r, -, hr⟩ := (Option.any_eq_true _ _).1 h
  exact ⟨r, of_decide_eq_true hr⟩

/-- `writes`, computed. -/
abbrev okWrite (s : State) (q : Req) : Prop :=
  ((findRow q.index q.sub).any fun r => decide (WriteReady (asked s q) q r 0)) = true

theorem witness_writes_links_and_sites :
    okWrite (mgmt [(0x7092, 1, 1)]) (ask 0x2101 3 1 15)
    ∧ (∀ n ∈ [0x1040, 0x1052], okWrite (mgmt [(0x7070, 1, 1)]) (toSub (ask n 6 1 1) n 6 1))
    ∧ okWrite (mgmt [(0x7071, 1, 1)]) (toObj (ask 0 64 4 (2 ^ 30 + 5)) 0x1061)
    ∧ okWrite (mgmt [(0x703F, 1, 1)]) { ask 0 64 4 0 with index := 0x4332, value := leBytes 4 0 }
    ∧ (∀ v ∈ [1, 2], okWrite (mgmt [(0x7057, 1, 1)]) (toVal (ask 0 255 1 0) 0x4002 v))
    ∧ okWrite (mgmt [(0x7067, 1, 1)]) (toObj (ask 0 128 64 1) 0x4110) := by decide +kernel

theorem witness_writes_ports_and_pair :
    okWrite (mgmt [(0x7080, 1, 1)]) (toSub (ask 0 0 1 0) 0x3001 3 1)
    ∧ okWrite (mgmt [(0x7081, 1, 1)]) (toObj (ask 0 6 1 9) 0x3101)
    ∧ okWrite (mgmt [(0x7081, 1, 1)]) { ask 0 0 4 0 with index := 0x3102, sub := 1 }
    ∧ (∀ v < 4, okWrite (mgmt [(0x7082, 1, 1), (0x3101, 1, 1)]) (toSub (ask 0 0 1 0) 0x3110 1 v)) := by decide +kernel

theorem witness_writes_power_and_background :
    (∀ v ∈ [1, 2], okWrite (mgmt [(0x707A, 1, 1)]) (toVal (ask 0 128 1 0) 0x5021 v))
    ∧ (∀ v < 2, okWrite (mgmt [(0x7091, 1, 1)]) (toSub (ask 0 0 1 0) 0x2002 2 v))
    ∧ okWrite (mgmt [(0x7092, 1, 1)]) { ask 0 0 1 15 with index := 0x2101, sub := 3 }
    ∧ (∀ v < 2, okWrite (mgmt [(0x7094, 1, 1)]) (toVal (ask 0 9 1 0) 0x5100 v))
    ∧ okWrite (mgmt [(0x7095, 1, 1)]) { ask 0 0 2 0x0127 with index := 0x6000, sub := 1 }
    ∧ okWrite (mgmt [(0x7095, 1, 1)]) (toVal (ask 0 64 1 0) 0x6005 0) := by decide +kernel

theorem witness_writes_security :
    (∀ v ∈ [1, 3], okWrite (mgmt [(0x2000, 1, 1), (0x7090, 1, 1)]) (toSub (ask 0 0 1 0) 0x1110 1 v))
    ∧ okWrite (mgmt [(0x2000, 1, 1), (0x7090, 1, 1), (0x1110, 1, 1)]) (toSub (ask 0 0 1 0) 0x1110 1 2)
    ∧ okWrite (mgmt [(0x2000, 1, 1), (0x7090, 1, 1), (0x1110, 1, 1)]) { ask 0 0 4 4096 with index := 0x1110, sub := 2 }
    ∧ okWrite (mgmt [(0x7090, 1, 1)]) (toSub (ask 0 0 1 0) 0x1102 4 1)
    ∧ okWrite { mgmt [] with sec := { records := [⟨2, 0⟩, ⟨0, 0⟩] } } (toObj (ask 0 1 32 7) 0x1120) := by decide +kernel

theorem witness_image_window :
    okWrite (mgmt [(0x2000, 1, 1), (0x7090, 1, 1), (0x1110, 1, 1)]) { ask 0 0 4096 7 with index := 0x1110, sub := 3 } := by decide +kernel

/-- A write of an RO object, one of a wrong length, one whose semaphore is free, one whose semaphore the other seat holds. -/
theorem witness_barred_writes :
    (∀ p ∈ [(mgmt [], ask 0x2000 1 1 0), (mgmt [(0x7092, 1, 1)], ask 0x2101 3 2 0), (mgmt [], ask 0x2101 3 1 0),
        (mgmt [(0x7092, 1, 2)], ask 0x2101 3 1 0)], let s := asked p.1 p.2
      s.takes p.2 2 = true ∧ (s.heard p.2).seatOf 100 = some 0 ∧ s.serves p.2.index = true
      ∧ ((findRow p.2.index p.2.sub).any fun r => ((s.heard p.2).writeBarred p.2 r 0).isSome) = true) := by decide +kernel


/-! ## Memory, background work, clocks, power -/

/-- The state code of stack 7, UP, as an object to set. -/
def stack7 : Nat × Nat × Nat := (0x5001, 8, 2 * 2 ^ 24)

/-- Context 1 with a cache share as well, and its partition from 7 × 8 KiB on, where stack 7 begins. -/
def ctx2 : Ctx := { ctx1 with cacheUnits := 1, partBase := 2 ^ 28 }

/-- The last channel's generator runs over the test rows, or outside them; it reads, or writes. -/
def tgenState (cfg : Nat) (outside : Bool) : State :=
  let s := inS2 [(0x5021, 128, 1)]
  { s with memsys := { s.memsys with tgens := [⟨128, cfg, outside, false⟩] } }

/-- Context 63 with that share, and a tracker of it that a command declared, or that learned its stride, before the line. -/
def prefetchState (learned : Bool) : State :=
  let s := inS2 [stack7]
  let line := 2 ^ 28 + 7 * 8192
  let t : Tracker := { stack := 7, ctx := 63, learned := learned, last := line - 64, stride := 64, idle := 0, stamp := 0, owner := 0,
                       walk := if learned then [] else [line - 64, line], pos := 1 }
  { s with sched := { s.sched with ctxs := modNth s.sched.ctxs 63 fun _ => ctx2 }, memsys := { s.memsys with trackers := [t] } }

theorem witness_memory_events :
    (inS2 [stack7]).stackUp 7 = true
    ∧ (∀ x ∈ [(-128 : Int), 0, 50, 94], x < ((inS2 []).get 0x2201 3 : Int))
    ∧ (∀ learned : Bool, let s := prefetchState learned
       let line := 2 ^ 28 + 7 * 8192
       (s.ctx 63).phase = .ready ∧ s.inS2 = true ∧ s.stackUp (stackOf (lineBase line)) = true
        ∧ s.mayPrefetch 63 (lineBase line) = true ∧ s.reaches 63 (lineBase line) learned = true
        ∧ isUe s.ue (lineBase line) = false ∧ s.isLost (lineBase line) = false)
    ∧ (∀ mode < 4, ∀ o : Bool, ((tgenState (mode * 256) o).memsys.tgens.find? fun t => t.sub == 128) = some ⟨128, mode * 256, o, false⟩
        ∧ Tg.opMode (mode * 256) = mode)
    ∧ (up [(0x5030, 1, 1)]).get 0x5030 1 = 1
    ∧ (let s := up [(0x2000, 1, 2), (0x5030, 1, 1)]; s.get 0x5030 1 = 1 ∧ s.assembling = true ∧ s.sec.decom = false) := by
  decide +kernel

/-- Step 0 at the threshold of step 1, step 4 at that of its return, step 1 between. -/
theorem witness_throttle :
    let s := inS2 []
    0 < s.throttleStep 0 (s.throttleAt 1) ∧ s.throttleStep 4 (s.throttleAt 4 - s.get 0x5005 3) = 3
      ∧ s.throttleStep 1 (s.throttleAt 2 - 1) = 1 := by decide +kernel

/-- A link that is up, and its state as an object to set. -/
def linkT (n : Nat) : Nat × Nat × Nat := (0x1040 + n, 1, 2)

/-- The last line but one and the last line of the last pseudo channel, with the other channels' lines all read. -/
def scrubEnds (n : Nat) : State :=
  let at' := (List.range 256).map fun k => (k, if k = 255 then n else pcLines)
  { inS2 [] with bg := { (inS2 []).bg with scrubAt := at' } }

theorem witness_scrub :
    (let a := rsvBase + 8 * 32 * mib - 64
     isHbm a = true ∧ lineChannel (lineBase a) = 255 ∧ linePlace (lineBase a) = pcLines - 1
      ∧ (scrubEnds (pcLines - 1)).taskActive 0 = true ∧ (scrubEnds (pcLines - 1)).scrubbed 255 = pcLines - 1
      ∧ smWf 0 (scrubEnds (pcLines - 1)).bg.scrubAt = true
      ∧ ((List.range 256).all fun n => (scrubEnds (pcLines - 1)).scrubbed n + b2n (n == 255) == pcLines) = true)
    ∧ (let s := inS2 []
       isHbm 0 = true ∧ lineChannel (lineBase 0) = 0 ∧ linePlace (lineBase 0) = s.scrubbed 0 ∧ s.taskActive 0 = true
        ∧ smWf 0 s.bg.scrubAt = true ∧ ((List.range 256).all fun n => s.scrubbed n + b2n (n == 0) == pcLines) = false) := by
  decide +kernel

theorem witness_clean : NoErrors (inS2 []) ∧ NoErrors (scrubEnds (pcLines - 1)) :=
  ⟨noErrors_of _ (by decide +kernel), noErrors_of _ (by decide +kernel)⟩

theorem witness_background :
    ((inS2 []).taskActive 1 = true ∧ (inS2 [(0x2110, 40, 2)]).bankClocked (sliceFlat + slotKey 79999 7 * sliceBytes) = true)
    ∧ (let s := inS2 [linkT 18]
       s.taskActive 2 = true ∧ s.linkUp 18 = true ∧ s.linkBusy 18 = false ∧ s.link 18 ≠ 5 ∧ smWf ({} : Tenon) s.pkg.links = true)
    ∧ (let s := inS2 [linkT 18, (0x1040 + 17, 1, 4)]; s.taskActive 2 = true ∧ s.linkUp 18 = true ∧ s.linkBusy 18 = true)
    ∧ (let s := { inS2 [] with bg := { (inS2 []).bg with retrainWait := [128] } }; s.taskActive 3 = true ∧ 128 ∈ s.bg.retrainWait)
    ∧ ((inS2 []).lit 6 = true ∧ (inS2 [(0x1011, 8, 3)]).lit 0 = true)
    ∧ ((inS2 []).taskActive 5 = true ∧ smWf 0 (inS2 []).bg.targets = true ∧ (railRange 6).2.1 ≤ 900 ∧ 900 ≤ (railRange 6).2.2)
    ∧ (let s := { inS2 [] with bg := { targets := [(6, 805)] } }
       s.taskActive 5 = true ∧ 6 ∉ s.bg.stoppedRails ∧ smWf 0 s.bg.rails = true
        ∧ s.railSet 6 < smGet (s.railSet 6) s.bg.targets 6)
    ∧ ((inS2 []).paused 6 = false ∧ smWf 0 (inS2 []).bg.remap = true ∧ ∀ h ∈ (inS2 []).plan.halves, h.buffer = [])
    ∧ ((inS2 []).taskActive 7 = true
        ∧ ({ inS2 [] with net := { streams := [(9, { phase := .opened, req := ⟨0, 5, 0, 0⟩ })] } } : State).telemetry ≠ [])
    ∧ (inS2 [(0x5100, 1, 1), (0x5100, 9, 1)]).paused 0 = true ∧ (inS2 [(0x5100, 1, 1), (0x5100, 9, 1)]).paused 8 = true := by
  decide +kernel

theorem witness_clocks :
    (inS2 [(0x2110, 40, 2)]).groupClock 39 = 2 ∧ (inS2 []).sched.flights = []
    ∧ ((inS2 [(0x2111, 4, 2)]).pll 3 = 2 ∧ bit ((inS2 []).get 0x2101 3) 3 = false
        ∧ ∀ g ∈ groupsOfDie 3, (inS2 [(0x2111, 4, 2)]).groupClock g = 0)
    ∧ ((inS2 [(0x2110, 40, 1)]).groupClock 39 = 1 ∧ (inS2 [(0x2111, 7, 1)]).pll 6 = 1 ∧ (inS2 []).pkg.wakeWait = [])
    ∧ ((inS2 [(0x2110, 40, 3)]).groupClock 39 = 3 ∧ (inS2 [(0x2111, 7, 3)]).pll 6 = 3)
    ∧ (let s := inS2 [(0x1011, 4, 3), (0x2111, 4, 2)]
       s.diesRun = true ∧ s.dieState 3 = 3 ∧ s.pll 3 = 2 ∧ s.get 0x2002 1 ≠ 2) := by decide +kernel

theorem witness_quiet : Quiet (inS2 []) :=
  ⟨by decide +kernel, by decide +kernel, by decide +kernel, by decide +kernel, by decide +kernel, by decide +kernel⟩

theorem witness_power :
    (let s := up [(0x2001, 2, 2 ^ 10)]
     s.pkg.resetHeld = false ∧ s.get 0x2001 1 ≠ 1 ∧ bit (s.get 0x2001 2) 10 = true ∧ s.canRetain = false ∧ s.stage ≠ 5)
    ∧ (up [(0x2000, 1, 6)]).stage = 6 ∧ (up [(0x2000, 1, 5)]).stage = 5
    ∧ (let s := up [(0x2000, 1, 6), (0x2001, 3, 1)]
       s.get 0x2001 1 = 0 ∧ s.pkg.trip = false ∧ s.get 0x2001 3 ≠ 2)
    ∧ (inS2 []).assembling = false ∧ (∀ u < 7, (inS2 []).dieTemp u < 85) ∧ (∀ h < 8, toSigned 8 ((inS2 []).get 0x5003 (h + 1)) < 85)
    ∧ (let s := { inS2 [(0x1011, 1, 5)] with pkg := { (inS2 []).pkg with trip := true } }
       s.pkg.trip = true ∧ s.retaining = false ∧ s.dieState 1 ≠ 5)
    ∧ (let s := { inS2 [(0x2002, 1, 2)] with pkg := { (inS2 []).pkg with exiting := true } }
       s.inS2 = true ∧ s.get 0x2002 1 = 2 ∧ s.pkg.exiting = true) := by decide +kernel


/-! ## Start, faults, replays, security -/

/-- S1 or the return at a step, with objects set. -/
def asm (stage step : Nat) (l : List (Nat × Nat × Nat)) : State := up ((0x2000, 1, stage) :: (0x2004, 1, step) :: l)

/-- A command in flight with an address of stream 7. -/
def fly (id : Nat) (e : Engine) (cores : List Nat) (aborting : Bool) : Flight :=
  { id := id, engine := e, kind := .normal, ctx := 1, addrs := [⟨7, 9, 0, 2, 0, false⟩], hdr := 0, desc := 0, list := 0,
    cores := cores, found := [], aborting := aborting, since := 0 }

def withFlight (s : State) (f : Flight) : State := { s with sched := { s.sched with flights := [f], nextId := f.id + 1 } }

def withReset (s : State) (t i step : Nat) : State := { s with pkg := { s.pkg with resets := [⟨t, i, 5, step, 0⟩] } }

theorem witness_board :
    State.reset.pkg.resetHeld = true ∧ State.reset.pkg.booted = false ∧ bit 512 9 = true
    ∧ (inS2 []).pkg.booted = true ∧ ((inS2 []).pkg.resets.any fun r => r.domType == 6) = false := by decide +kernel

theorem witness_assembly_steps :
    (let s := up [(0x2100, 2, 1), (0x1102, 1, 0)]
     s.stage = 0 ∧ s.pkg.booted = true ∧ s.pkg.resetHeld = false ∧ s.pkg.resets = [] ∧ s.get 0x1102 1 = 0 ∧ s.lifecycle ≠ 4 ∧ s.get 0x2100 2 = 1 ∧ s.get 0x2003 1 = 0
      ∧ s.pkg.trip = false)
    ∧ (let s := asm 2 1 [(0x1011, 6, 2)]
       s.assembling = true ∧ s.dieState 5 = 2 ∧ s.resolved1 5 = false ∧ s.resolved1 4 = false)
    ∧ (let s := asm 2 2 [(0x1011, 4, 2), (0x2111, 4, 1)]
       s.asmStepNo = 2 ∧ s.dieState 3 = 2 ∧ s.resolved1 3 = false ∧ s.resolved1 0 = false ∧ s.pll 3 = 1)
    ∧ (let s := asm 2 1 [(0x1011, 7, 2), (0x2111, 7, 1)]
       s.dieState 6 = 2 ∧ s.resolved1 6 = false ∧ s.resolved1 4 = false ∧ s.pll 6 = 1)
    ∧ ((asm 2 5 []).asmStepNo = 5 ∧ (asm 2 6 []).asmStepNo = 6) := by decide +kernel

theorem witness_assembly_ends :
    (let s := asm 2 7 [(0x5001, 1, 2 ^ 24)]
     s.assembling = true ∧ s.asmStepNo = 7 ∧ s.stackState 0 = 1 ∧ s.pkg.conds = [])
    ∧ (let s := asm 7 7 [(0x5001, 1, 2 ^ 24), (0x5030, 1, 2)]
       s.assembling = true ∧ s.asmStepNo = 7 ∧ s.stackState 0 = 1 ∧ s.stage = 7 ∧ s.get 0x5030 1 = 2)
    ∧ (nth (0, 0) [((0 : Nat), (0 : Nat)), (0x10, 0)] 1).1 = 0x10
    ∧ (let s := asm 2 8 [(0x1011, 1, 3)]
       s.asmStepNo = 8 ∧ s.pkg.conds = [] ∧ s.admittedOf 1 ≠ [] ∧ s.plan.queue = [])
    ∧ (let s := up [(0x1052, 1, 4)]
       18 ∈ linkNums ∧ s.link 18 = 4 ∧ s.assembling = false)
    ∧ (∀ n ∈ [13, 16], let s := asm 2 2 [(0x1040 + n, 1, 4), (0x1011, n - 12, 2)]
       n ∈ linkNums ∧ s.link n = 4 ∧ s.assembling = true ∧ s.asmStepNo = 2 ∧ s.pkg.conds = [] ∧ s.dieState (linkEnds n).1 = 2)
    ∧ (asm 2 4 [(0x1052, 1, 4)]).asmStepNo = 4 ∧ (asm 2 4 [(0x1052, 1, 4)]).dieState (linkEnds 18).1 ≠ 2 ∧ (asm 2 3 []).stage = 2 ∧ (asm 2 3 []).pkg.conds = []
    ∧ (siteTrained true 16 32 = true ∧ siteTrained true 8 4 = true ∧ siteTrained false 16 32 = false) := by decide +kernel

theorem witness_timeouts :
    (let s := withFlight ready (fly 3 .cores [79999] false)
     s.flight 3 = some (fly 3 .cores [79999] false) ∧ s.retaining = false ∧ s.arrivals 1 = [])
    ∧ (∀ e ∈ [Engine.codec, .intake, .planer, .fabric], (withFlight ready (fly 3 e [] false)).flight 3 = some (fly 3 e [] false))
    ∧ (let f := fly 3 .cores [79999] true
       (withFlight ready f).flight 3 = some f ∧ f.isStream true = false ∧ f.isStream false = false)
    ∧ (let f := fly 3 .codec [] true; (withFlight ready f).flight 3 = some f ∧ f.kind = .normal) := by decide +kernel

/-- The descriptor of CD3 and the training of its link to the IOD that a rejoin brings. -/
def cd3 : Nat := nth 0 resetFuses 3
def run16 : LinkRun := { link := 16, failedAB := 0, failedBA := 1, bits := 0, errAB := 0, errBA := 0, laneAB := 0, laneBA := 0 }

theorem witness_resets :
    (∀ p ∈ [(1, 39), (3, 3), (6, 0)], ((withReset (inS2 []) p.1 p.2 0).pkg.resets.find? fun r =>
      r.domType == p.1 && r.domIndex == p.2 && r.step == 0) = some ⟨p.1, p.2, 5, 0, 0⟩)
    ∧ ((withReset (inS2 []) 1 39 1).pkg.resets.any fun r => r.domType == 1 && r.domIndex == 39 && r.step == 1) = true
    ∧ (let s := withReset (inS2 [(0x1040 + 16, 4, 1)]) 3 3 1
       (s.pkg.resets.any fun r => r.domType == 3 && r.domIndex == 3 && r.step == 1) = true ∧ s.rejoinOk 3 cd3 = true
        ∧ 16 ∈ linksOf 3 ∧ widthOf run16.failedAB ≠ 0 ∧ widthOf run16.failedBA ≠ 0 ∧ s.plan.queue = [] ∧ s.plan.job = none
        ∧ s.rejoinBusy 3 3 = false)
    ∧ (withReset (inS2 []) 1 39 1).rejoinBusy 1 39 = false := by decide +kernel

/-- Context 1 a suspect with one interrupted MATMUL on group 39, and a MATMUL of it that fails its checks. -/
def suspect (desc : Desc) : State :=
  let s := ready.set 0x6003 2 (2 ^ 24)
  { s with sched := { s.sched with suspects := [⟨1, 1, 0, [⟨7, 9, 0, 2, 0, false⟩], 0, desc, 1, 39⟩] } }

theorem witness_replays :
    (let s := suspect (force (cmd 1 2 3 0xFFF 0) 7 0 1)
     let u := replayed s 1 []
     s.nextSuspect = some 1 ∧ s.replayReady 1 = true ∧ (∀ st ∈ u.sched.replayFound, st.valid = true)
      ∧ (∀ f ∈ u.sched.flights, f.kind ≠ .replay)
      ∧ (Memory.wf u.mem && smWf false u.ue && smWf 0 u.obj && smWf 0 u.ctr) = true ∧ u.ctr.all (fun e => e.2 ≤ ctrMax) = true)
    ∧ (let s := suspect (force (cmd 0xFFE 2 3 0xFFF 0) 7 0 1)
       let u := replayed s 1 []
       s.nextSuspect = some 1 ∧ s.replayReady 1 = true ∧ (∃ st ∈ u.sched.replayFound, st.valid = false)
      ∧ (Memory.wf u.mem && smWf false u.ue && smWf 0 u.obj && smWf 0 u.ctr) = true ∧ u.ctr.all (fun e => e.2 ≤ ctrMax) = true)
    := by decide +kernel

/-- LC_REQUEST on its stream, with seat A, while a transition to `b` goes on where one is named. -/
def lcState (goal : Nat) (b : Option Nat) : State :=
  let s := asked (mgmt [(0x7090, 1, 1)]) { ask 0x1100 2 1 goal with sub := 2 }
  { s with sec := { s.sec with records := [⟨0, 0⟩, ⟨0, 0⟩], blow := b } }

theorem witness_security :
    (up [(0x1110, 1, 2)]).imageControl = 2
    ∧ (let s := { inS2 [] with sec := { signing := [none, some [1#8]], key := some 7 } }
       nth none s.sec.signing 1 = some [1#8] ∧ s.sec.key = some 7)
    ∧ (∀ goal ∈ [1, 4], ∀ b ∈ [none, some 4], let s := lcState goal b
      let q := ask 0 0 1 goal
      let w : Req := { q with index := 0x1100, sub := 2 }
      let h := s.heard w
      smWf ({} : Strm) s.net.streams = true ∧ s.takes w 2 = true ∧ h.seatOf 100 = some 0 ∧ h.objReason 0x1100 2 = none
        ∧ ((findRow 0x1100 2).any fun r => h.writeBarred w r 0 == none
            && h.inRange r 0x1100 2 (definedBits 0x1100 2 (leNat q.value))) = true
        ∧ (goal = 1 → h.lcResult goal ≠ 0) ∧ (goal = 4 → h.lcResult goal = 0) ∧ s.sec.blow = b ∧ s.sec.records.length = 2)
    ∧ ((lcState 4 (some 4)).pkg.resets.any fun r => r.domType == 6) = false := by decide +kernel


/-! ## Lists, loads, the codec -/

/-- A record of model 254: one partition unit, one pool unit, slot 3, group 39, its image of 1 MiB on DATA stream 8. -/
def rec254 : Nat :=
  1 + 3 * 2 ^ 16 + 2 ^ 19 + 2 ^ 38 + 8 * 2 ^ 50 + 2 ^ (264 + 39) + 2 ^ 20 * 2 ^ 304

/-- S2 with COMMAND stream 30 (completions on stream 31) and model 254 with that record, in a state. -/
def lists (st : Nat) (l : List (Nat × Nat × Nat)) : State :=
  let s := inS2 ((0x4001, 255, rec254) :: (0x4002, 255, st) :: (0x4003, 255, 1) :: (0x1011, 5, 3) :: (0x1011, 6, 3) :: l)
  let x : Strm := { phase := .opened, req := ⟨0, 1, 0, 31⟩ }
  { s with net := { s.net with streams := [(30, x)] },
           sched := { s.sched with ctxs := modNth s.sched.ctxs 1 fun _ => { ctx1 with model := 254, record := rec254 } } }

/-- A list of one entry for model 254, not mergeable. -/
def list254 : ListReq :=
  { stream := 30, hdr := 5 + 254 * 2 ^ 40 + 2 ^ 48 + 0xFFF * 2 ^ 88 + 0xFFF * 2 ^ 100, entries := [(0, cmd 1 2 3 0xFFF 1)], row := [] }

/-- A list in the queue of model 254. -/
def queued (ph : ListPhase) : CList :=
  { id := 4, model := 254, hdr := list254.hdr, entries := list254.entries, members := [⟨31, 5, [0], [], 0⟩], phase := ph,
    next := 0, queuedAt := 0, admittedAt := 0 }

def withList (s : State) (l : CList) : State := { s with sched := { s.sched with lists := [l], nextId := 5 } }

/-- A list's bytes on its stream. -/
def listed (s : State) (q : ListReq) : State := s.setStrm q.stream { s.strm q.stream with rxBytes := listReqBytes q }

theorem witness_command_list :
    (∀ q ∈ [list254, { list254 with hdr := list254.hdr + 2 ^ 32 }], ((listed (lists 0 []) q).strm 30).hears 1 (listReqBytes q) = true
        ∧ q.entries.length = ListHdr.count q.hdr ∧ q.row.length = ListHdr.rowBytes q.hdr)
    ∧ listHdrOk (list254.hdr + 2 ^ 32) = false ∧ recordOk ((lists 0 [(0x4001, 255, 0)]).record 254) = false
    ∧ (let q := { list254 with hdr := list254.hdr + 2 ^ 66 + 4 * 2 ^ 112, row := List.replicate 4 1#8 }
       let s := listed (lists 3 []) q
       (s.strm 30).hears 1 (listReqBytes q) = true ∧ q.row.length = ListHdr.rowBytes q.hdr ∧ s.rowBytesOk q.hdr = false)
    ∧ (listHdrOk list254.hdr = true ∧ recordOk ((listed (lists 0 []) list254).record 254) = true
        ∧ (listed (lists 0 []) list254).rowBytesOk list254.hdr = true ∧ ListHdr.onDemand list254.hdr = false
        ∧ ListHdr.mergeM list254.hdr = 0 ∧ ListHdr.model list254.hdr = 254 ∧ (listed (lists 0 []) list254).modelState 254 ≠ 3)
    ∧ (let s := listed (lists 3 []) list254
       s.modelState 254 = 3 ∧ s.mayDispatch (s.modelCtx 254) = true ∧ s.pairState ≠ 4 ∧ s.sched.lists = [])
    ∧ (let s := withList (listed (lists 3 []) list254) (queued .dispatching)
       (∃ y ∈ s.sched.lists, y.model = 254 ∧ y.phase = .dispatching)
        ∧ ((s.sched.lists.filter (·.waits)).map fun l => l.members.length).foldl (· + ·) 0 < 4096)
    ∧ (let l := { queued .queued with members := List.replicate 4096 ⟨31, 5, [0], [], 0⟩ }
       let s := withList (listed (lists 3 []) list254) l
       4096 ≤ ((s.sched.lists.filter (·.waits)).map fun l => l.members.length).foldl (· + ·) 0) := by decide +kernel

/-- An entry of a reserved OPCODE, and one of a reserved operation of the Planer, that stand next in the one list that dispatches;
a life-cycle transition that goes on. -/
theorem witness_idle_entries :
    (∀ e ∈ [((0 : Nat), cmd 1 2 3 0xFFF 11), (1, (32 : Desc))],
      let l := { queued .dispatching with entries := [e] }
      let s := withList (lists 3 []) l
      s.pending = [] ∧ s.sec.blow = none ∧ s.sched.lists = [l] ∧ l.next + 1 = l.entries.length ∧ l.entries[l.next]? = some e
        ∧ entryKnown e.1 e.2.toNat = false
        ∧ (s.sched.ctxs.findIdx? fun x => x.model == l.model && x.phase == .ready) = some 1 ∧ s.mayDispatch 1 = true
        ∧ s.ctr = [] ∧ (Memory.wf s.mem && smWf false s.ue && smWf 0 s.obj && smWf 0 s.ctr) = true)
    ∧ (let s := withList (lists 3 []) (queued .dispatching)
       ∀ l ∈ s.sched.lists, l.entries.all (fun e => entryKnown e.1 e.2.toNat || l.phase != .dispatching) = false
        ∨ ∀ e ∈ l.entries, entryKnown e.1 e.2.toNat = true)
    ∧ (let s := { lcState 4 (some 4) with pending := [] }
       s.sec.blow = some 4 ∧ (s.pkg.resets.any fun r => r.domType == 6) = false) := by decide +kernel

theorem witness_fresh_ids : FreshIds (withList (lists 3 []) (queued .queued)) ∧ FreshIds ready := by
  refine ⟨⟨?_, ?_⟩, ⟨?_, ?_⟩⟩ <;> decide +kernel

theorem witness_queued_lists :
    (let s := withList (lists 3 []) (queued .queued)
     (s.sched.lists.find? fun l => l.model == 254 && l.waits) = some (queued .queued) ∧ s.admissible (queued .queued) = true
      ∧ s.findList 4 = some (queued .queued) ∧ s.retaining = false)
    ∧ (withList (lists 2 []) (queued .awaitLoad)).findList 4 = some (queued .awaitLoad)
    ∧ (withList (lists 3 []) (queued .grouping)).findList 4 = some (queued .grouping) := by decide +kernel

/-- Model 254 queued to load, with its record; the context of the other tests is not there. -/
def loading (st rec : Nat) : State :=
  let s := lists st [(0x4001, 255, rec)]
  { s with sched := { s.sched with ctxs := List.replicate 64 noCtx, loads := [⟨254, 0, 0⟩] } }

theorem witness_loads :
    (let s := loading 1 (rec254 + 2 ^ 28)
     s.loadHead = some ⟨254, 0, 0⟩ ∧ s.loadsWait = false ∧ s.sched.ctxs.length = 64
      ∧ allocate (s.record 254) s.holders s.sched.badRanges = some ⟨0, 0, 0, 0⟩)
    ∧ (let s0 := loading 1 rec254
       let s := { s0 with sched := { s0.sched with badRanges := [(0, 2047 * partUnit)] } }
       s.loadHead = some ⟨254, 0, 0⟩ ∧ s.loadsWait = false ∧ allocate (s.record 254) s.holders s.sched.badRanges = none
        ∧ s.evictions (s.record 254) = none
        ∧ allocate (s.record 254) (s.holders.filter fun h => !(h.2.phase == .stopping
            || (s.modelState h.2.model == 3 && !Rec.pin h.2.record))) s.sched.badRanges = none)
    ∧ (let s := lists 2 []
       s.modelState 254 = 2 ∧ s.modelCtx 254 < 64 ∧ s.retaining = false ∧ s.ctxBusy (s.modelCtx 254) = false)
    ∧ (lists 4 []).modelState 254 = 4 ∧ (lists 5 []).modelState 254 = 5 := by decide +kernel

/-- Tensors 13 and 14: a stream of 4,096 bytes and two words of data, in HBM. -/
def streams : State :=
  let t := [(13, ten 9 2 0 8192 [4096] []), (14, ten 6 2 0 0 [2] [])]
  { ready with sched := { ready.sched with ctxs := modNth ready.sched.ctxs 1 fun _ => { ctx1 with tensors := tensors ++ t } } }

def sqDesc (sq : Bool) : Desc :=
  force (force (if sq then cmd 14 0xFFF 13 0xFFF 0 else cmd 13 0xFFF 14 0xFFF 0) 7 0 6) 99 96 (if sq then 2 else 3)

/-- `StreamReady`, computed. -/
def streamReadyB (s : State) (d : Dispatch) (desc : Desc) : Bool :=
  let cores := s.coresOf d.ctx desc
  !s.tableBusy d.ctx && s.mayDispatch d.ctx && hdrOk d.hdr 0 && codecMoveOk desc.toNat ((taken s d desc).ctx d.ctx).tensors
    && (!binds desc.toNat || (s.activeSlot (Mv.gen desc.toNat)).isSome) && (taken s d desc).setOk d.ctx cores
    && !cores.any (s.coreWaits d.ctx) && !(cores.zipIdx.any fun p => s.slotWaits d.ctx desc.toNat p.1 p.2)

theorem streamReady_of (s : State) (d : Dispatch) (desc : Desc) (h : streamReadyB s d desc = true) : StreamReady s d desc := by
  simp only [streamReadyB, Bool.and_eq_true, Bool.or_eq_true, Bool.not_eq_true'] at h
  obtain ⟨⟨⟨⟨⟨⟨⟨a, b⟩, c⟩, d⟩, e⟩, f⟩, g⟩, i⟩ := h
  exact ⟨a, b, c, d, fun hb => e.resolve_left (by simp [hb]), f, g, i⟩

/-- Another context's request waits for an engine, so that none is free. -/
def enginesBusy (sq : Bool) : State :=
  let f := { fly 3 .cores [0] false with ctx := 2, desc := sqDesc sq }
  (withFlight streams f).setEngineQueue sq [⟨3, 0, 0⟩]

theorem witness_streams :
    (∀ sq : Bool, let desc := sqDesc sq
      streamReadyB streams (disp desc) desc = true ∧ force (force desc 7 0 6) 99 96 (if sq then 2 else 3) = desc
        ∧ streams.coresOf 1 desc = [79999] ∧ bit (disp desc).hdr 3 = false ∧ 1 ≤ streams.enginesFree sq
        ∧ streamReadyB (enginesBusy sq) (disp desc) desc = true ∧ (enginesBusy sq).enginesFree sq = 0)
    ∧ (∀ sq : Bool, let f := { fly 3 .cores [79999] false with desc := sqDesc sq }
      let s := (withFlight streams f).setEngineQueue sq [⟨3, 79999, 0⟩]
      s.engineQueue sq = [⟨3, 79999, 0⟩] ∧ s.flight 3 = some f ∧ ∀ a ∈ f.addrs, a.merged = false) := by decide +kernel

theorem witness_streams_ids : FreshIds (enginesBusy true) ∧ CountersBounded (enginesBusy true) ∧ Clean (enginesBusy true) (disp 0) :=
  ⟨⟨by decide +kernel, by decide +kernel⟩, countersBounded_nil _ (by decide +kernel), ⟨noErrors_of _ (by decide +kernel), rfl, rfl⟩⟩

/-- A table image that passes R209: every symbol at 8 bits, version 1, its CRC32. -/
def tableImg : List Byte :=
  let b := List.replicate 128 0x88#8 ++ leBytes 2 1 ++ List.replicate 10 0#8
  b ++ leBytes 4 (crc32 b)

/-- LOAD or RETIRE of generation 15, its image at offset 4,096 of the partition. -/
def tableDesc (op : Nat) : Desc := BitVec.ofNat 512 (op + 15 * 4 + 2 * 64 + 4096 * 256)

def toCodec (desc : Desc) : Dispatch := { disp desc with hdr := 2 }

def allBusy (s : State) : State :=
  s.setSlots (List.replicate 4 { phase := .active, gen := 1, image := [] })

/-- A LOAD in TABLE_WAIT, with its image in the partition. -/
def waitingLoad : State :=
  let f := { fly 3 .codec [] false with hdr := 2, desc := tableDesc 1 }
  let s := withFlight { ready with mem := memWrs [] (2 ^ 28 + 4096) tableImg } f
  { s with codec := { s.codec with waiting := [3] } }

/-- Another context's LOAD waits for a slot. -/
def behindWaiting : State :=
  let s := withFlight ready { fly 3 .codec [] false with ctx := 2, hdr := 2, desc := tableDesc 1 }
  { s with codec := { s.codec with waiting := [3] } }

/-- The flight of a LOAD as its command begins, and the image that it reads. -/
def loadImage (s : State) : List Byte :=
  let a := engineStart s (toCodec (tableDesc 1)) (tableDesc 1) .codec
  let f := Flight.mk a.sched.nextId .codec .normal 1 (addrsOf s (toCodec (tableDesc 1)) (tableDesc 1)) 2 (tableDesc 1)
    (s.take (toCodec (tableDesc 1)) (tableDesc 1)).2.list [] [] false a.time []
  ((a.addFlight f).tableImage f).1

theorem witness_tables :
    (∀ op ∈ [1, 2], hdrOk (toCodec (tableDesc op)).hdr Engine.codec.code = true ∧ tableCmdOk (tableDesc op).toNat = true
      ∧ force (tableDesc op) 1 0 op = tableDesc op)
    ∧ (∀ s ∈ [ready, allBusy ready, behindWaiting], s.mayDispatch 1 = true ∧ s.tableBusy 1 = false)
    ∧ ready.freeSlot = some 0 ∧ ready.codec.waiting = [] ∧ (allBusy ready).freeSlot = none
    ∧ waitingLoad.freeSlot = some 0 ∧ behindWaiting.freeSlot = some 0 ∧ behindWaiting.codec.waiting ≠ [] := by decide +kernel

set_option maxRecDepth 100000 in
theorem witness_table_image :
    (let f := { fly 3 .codec [] false with hdr := 2, desc := tableDesc 1 }
     tableOk (loadImage ready) = false ∧ tableOk (loadImage { ready with mem := waitingLoad.mem }) = true
      ∧ waitingLoad.slotWinner = some f ∧ tableOk (waitingLoad.tableImage f).1 = true ∧ (waitingLoad.ctx 1).lostPending = false)
    := by decide +kernel

theorem witness_tables_clean : CleanMemory ready (disp 0) ∧ NoErrors waitingLoad :=
  ⟨⟨⟨noErrors_of _ (by decide +kernel), rfl, rfl⟩, by decide +kernel⟩, noErrors_of _ (by decide +kernel)⟩


/-! ## Collectives -/

/-- Tensors 15 and 16: 32 E5M2 elements with block scales, in HBM. -/
def collState (topo : Nat) (l : List (Nat × Nat × Nat)) : State :=
  let s := inS2 ((0x3102, 1, topo) :: l)
  let e (a : Nat) : Nat := ten 2 2 0 a [32] [] + 2 ^ 427 + 2 * 2 ^ 425 + (a + 64) * 2 ^ 385
  let x := { ctx1 with tensors := tensors ++ [(15, e 0), (16, e 128)] }
  { s with sched := { s.sched with ctxs := modNth s.sched.ctxs 1 fun _ => x } }

/-- A chain of one device, and rank 0 of a chain of two with its port NEXT. -/
def chain1 : State := collState (2 ^ 28 + 2 ^ 16) []
def chain2 : State := collState (2 ^ 28 + 2 * 2 ^ 16) [(0x3101, 1, 2)]

def collCmd : Desc := cmd 15 0xFFF 16 0xFFF 0 - 3 * 2 ^ 80

theorem witness_collectives :
    ∀ op ∈ [1, 2, 3], ∀ s ∈ (if op = 3 then [chain1] else [chain1, chain2]), let d := disp collCmd
      let desc := collDesc d op
      s.mayDispatch 1 = true ∧ hdrOk d.hdr Engine.fabric.code = true ∧ (taken s d desc).collOk 1 desc.toNat = true
        ∧ s.noCollective = true ∧ s.fab.coll = none ∧ s.fab.early = [] ∧ Co.id desc.toNat = s.nextColl
        ∧ s.writesPending 1 = false
        ∧ (bit d.hdr 3 && (taken s d desc).frozen d.ctx (Cmd.layer desc.toNat)) = false := by decide +kernel

theorem witness_collectives_ids : Canonical chain1 ∧ FreshIds chain1 ∧ Canonical chain2 ∧ FreshIds chain2 :=
  ⟨canonical_of _ (by decide +kernel), ⟨by decide +kernel, by decide +kernel⟩, canonical_of _ (by decide +kernel),
    ⟨by decide +kernel, by decide +kernel⟩⟩

/-- A collective that runs: the state after its dispatch on rank 0 of two. -/
def collRuns : State :=
  match exec (.allReduce (disp collCmd)) chain2 with
  | .next t => t
  | _ => chain2

/-- The same, as a later one. -/
def collLater : State := { collRuns with fab := { collRuns.fab with coll := collRuns.fab.coll.map fun x => { x with id := 6 } } }

/-- The five messages of a collective, from the neighbour in role 2. -/
def collMsgs (id : Nat) : List CollMsg :=
  [⟨2, 0x20, 0, 0, id, 0, [1#8]⟩, ⟨2, 0x21, 1, 3, id, 4, [1#8]⟩, ⟨2, 0x22, 0, 3, id, 4, [1#8]⟩, ⟨2, 0x23, 1, 3, id, 4, [1#8]⟩,
   ⟨2, 0x24, 0, 0, id, 0, [1#8]⟩]

/-- A state to which a message has been delivered. -/
def delivered (s : State) (role : Nat) (bytes : List Byte) : State := { s with fab := { s.fab with inbox := [(0, role, bytes)] } }

abbrev deliveredOk (s : State) (m : CollMsg) : Prop :=
  (s.fab.early.filter fun e => e == m).length < (s.fab.inbox.filter fun e => e.2 == (m.role, m.msg.bytes)).length

theorem deliveredOk_iff (s : State) (m : CollMsg) : deliveredOk s m ↔ Delivered s m := Iff.rfl

theorem witness_collective_messages :
    (∀ m ∈ collMsgs 0, let s := delivered chain2 m.role m.msg.bytes
      deliveredOk s m ∧ ¬ deliveredOk chain2 m ∧ s.fab.coll = none ∧ s.fab.early = [] ∧ s.noCollective = true ∧ s.nextColl ≤ m.id)
    ∧ (∀ m ∈ collMsgs 5, let s := delivered (collState 0 [(0x3102, 2, 6)]) m.role m.msg.bytes
      deliveredOk s m ∧ s.fab.coll = none ∧ m.id < s.nextColl)
    ∧ (∀ m ∈ collMsgs 0, deliveredOk (delivered collLater m.role m.msg.bytes) m ∧ collLater.fab.coll.any (fun x => x.id == 6) = true
        ∧ deliveredOk (delivered collRuns m.role m.msg.bytes) m)
    ∧ (collRuns.fab.coll.any fun x => x.id == 0 && x.ended == none && !x.complete && collRuns.fab.early == []
        && !x.got.contains [2] && collRuns.sched.flights.all (fun g => g.engine != .fabric || g.id == x.flight) && x.head != [1#8]
        && (collRuns.flight x.flight).any fun f => f.kind == .normal && f.found == []) = true := by decide +kernel

/-! ## The Planer -/

/-- A job of context 1 over `rows` × 128 elements: its arrays from offset 64 Ki on, its digest table at 4,096. -/
def pj (rows : Nat) : Desc :=
  BitVec.ofNat 512 (1 + 5 * 2 ^ 48 + rows * 2 ^ 64 + 128 * 2 ^ 96 + 2 ^ 16 * 2 ^ 128 + 2 ^ 17 * 2 ^ 168 + 2 ^ 15 * 2 ^ 208
    + (2 ^ 18) * 2 ^ 248 + 2 ^ 19 * 2 ^ 288 + (2 ^ 18 + 2 ^ 16) * 2 ^ 328 + (2 ^ 19 + 2 ^ 17) * 2 ^ 368 + 4096 * 2 ^ 448)

def toPlaner (d : Desc) : Dispatch := { disp d with hdr := 1 }

/-- The same state in a pair. -/
def pairedState (s : State) : State := (s.set 0x3111 1 2).set 0x3101 1 1

theorem witness_planer_jobs :
    (∀ s ∈ [ready, pairedState ready], s.mayDispatch 1 = true ∧ s.planerDown = false ∧ s.plan.frozen = [] ∧ s.plan.job = none
      ∧ s.plan.queue = [] ∧ s.plan.halves.length = 2)
    ∧ (let desc := force (pj 1) 5 4 0
       hdrOk 1 Engine.planer.code = true ∧ (taken ready (toPlaner (pj 1)) desc).jobOk 1 desc.toNat = true
        ∧ ready.frozen 1 (Pj.layer desc.toNat) = false)
    ∧ (∀ r < 2, ∀ s ∈ [ready, pairedState ready], let desc := force (force (pj 1) 5 4 1) 7 6 r
      (taken s (toPlaner (pj 1)) desc).jobOk 1 desc.toNat = true ∧ s.records 1 (Pj.job desc.toNat) 0 0 = []
        ∧ s.records 1 (Pj.job desc.toNat) 0 1 = [] ∧ s.plan.drifted = [] ∧ s.plan.stopped = [] ∧ s.gradNan 1 desc.toNat = false)
    ∧ ready.paired = false ∧ (pairedState ready).paired = true ∧ (pairedState ready).plan.partnerStart = none := by decide +kernel

theorem witness_planer_clean : CleanMemory (pairedState ready) (toPlaner (pj 1)) ∧ Canonical (pairedState ready)
    ∧ FreshIds (pairedState ready) :=
  ⟨⟨⟨noErrors_of _ (by decide +kernel), rfl, rfl⟩, by decide +kernel⟩, canonical_of _ (by decide +kernel),
    ⟨by decide +kernel, by decide +kernel⟩⟩

/-- The Planer in a sweep of a MOMENT2 job of `rows` rows, with what its halves hold. -/
def sweeping (rows : Nat) (ph : JobPhase) (next home : List Nat) (halves : List Half) : State :=
  let j : Job := { flight := 3, ctx := 1, desc := force (force (pj rows) 5 4 1) 7 6 1, step := 0, coef := ready.readCoefs 0,
                   phase := ph, next := next, home := home, found := [] }
  let s := withFlight ready { fly 3 .planer [] false with hdr := 1, desc := j.desc }
  { s with plan := { s.plan with job := some j, halves := halves } }

/-- A slab of its staging slot. -/
def slot (k sum : Nat) (agreed : Bool) : Staged :=
  { k := k, sum := sum, agreed := agreed, unpaired := false, fetch := false, code := none }

theorem witness_slab_staged :
    ∀ h < 2, let s := sweeping 129 .weights [0, 1] [0, 1] [{}, {}]
      (s.plan.job.any fun j => j.phase == .weights && j.next.length == 2 && j.home.length == 2 && nth 0 j.next h % 2 == h
        && nth 0 j.home h ≤ nth 0 j.next h && nth 0 j.next h < Pj.slabs j.desc.toNat && s.stagedOf (nth 0 j.next h) == none
        && s.ue == [] && s.memsys.lines == [] && s.memsys.lost == []) = true
      ∧ s.retaining = false ∧ (s.half h).staged.length < 64 ∧ s.plan.repairing = [] ∧ s.paired = false
      ∧ s.plan.halves.length = 2 ∧ (s.ctx 1).lostPending = false := by decide +kernel

/-- The descriptor of `sweeping`. -/
def sweepDesc (rows : Nat) : Nat := (force (force (pj rows) 5 4 1) 7 6 1).toNat

theorem sweeping_stagedBytes (rows : Nat) (ph : JobPhase) (n h : List Nat) (l : List Half) (d sweep k : Nat) :
    (sweeping rows ph n h l).stagedBytes d sweep k = ready.stagedBytes d sweep k := rfl

theorem sweeping_stagedOf (rows sum : Nat) (ph : JobPhase) (n h : List Nat) :
    (sweeping rows ph n h [{ staged := [slot 0 sum true] }, {}]).stagedOf 0 = some (slot 0 sum true) := rfl

/-- A staged slab whose checksum holds, with another slab of its half still to come. -/
theorem witness_slab_home : ∃ sum,
    let s := sweeping 129 .moments [2, 1] [0, 1] [{ staged := [slot 0 sum true] }, {}]
    s.stagedOf 0 = some (slot 0 sum true) ∧ slabSum (s.stagedBytes (sweepDesc 129) 0 0) = (slot 0 sum true).sum
      ∧ 0 + 2 < Pj.slabs (sweepDesc 129) ∧ 8 ≤ (s.ctx 1).partSize :=
  ⟨slabSum (ready.stagedBytes (sweepDesc 129) 0 0), sweeping_stagedOf .., by rw [sweeping_stagedBytes]; simp only [slot],
    by decide +kernel, by decide +kernel⟩

/-- A PACK that was waiting for S2, as retention left it. -/
def packRetained : State :=
  let s := sweeping 1 .retained [0, 1] [0, 1] [{}, {}]
  { s with plan := { s.plan with job := s.plan.job.map fun j => { j with desc := force (pj 1) 5 4 0 } } }

theorem witness_planer_resume :
    (let s := sweeping 1 .retained [0, 1] [0, 1] [{}, {}]
     (s.plan.job.any fun j => j.phase == .retained && Pj.phase j.desc.toNat == 1
      && (List.range 2).all (fun h => s.records j.ctx (Pj.job j.desc.toNat) j.step h == [])
      && !s.gradNan j.ctx j.desc.toNat && s.ue == [] && s.memsys.lines == [] && s.memsys.lost == []
      && !(s.ctx j.ctx).lostPending) = true ∧ s.inS2 = true)
    ∧ (packRetained.plan.job.any fun j => j.phase == .retained && Pj.phase j.desc.toNat == 0 && j.found == []
        && ((packRetained.flight j.flight).any fun f => f.kind == .normal && f.found == [])) = true
    ∧ packRetained.plan.queue = [] ∧ packRetained.inS2 = true := by decide +kernel

/-- Slab 0 under arbitration, as the two checksums, the partner's answer and its self-check give it. -/
def arb (own : List Nat) (partner : Option (List Nat)) (kat : Option Bool) (await : Option Nat) (sum : Nat) : State :=
  pairedState (sweeping 129 .weights [2, 1] [0, 1]
    [{ staged := [slot 0 7 false],
       arbit := some { k := 0, partnerSum := sum, own := own, partner := partner, ownKat := none, partnerKat := kat, await := await,
                       second := false } }, {}])

/-- The partner's STAGED record of slab 0 with checksum 7. -/
def agreeRec : Nat := 6 * 2 ^ 96 + 2 ^ 110 + 5 * 2 ^ 116 + 7 * 2 ^ 192

/-- A message of the partner, delivered. -/
def told (s : State) (m : Msg) : State := delivered s 1 m.bytes

/-- A slab that awaits the partner's bytes. -/
def fetched : Staged := { slot 0 (slabSum [1#8, 2#8]) true with fetch := true }

theorem witness_agreement :
    (let s := told (pairedState ready) { type := 0x10, body := [1#8] }
     s.hasMsg 1 { type := 0x10, body := [1#8] } = true ∧ s.paired = true ∧ s.plan.job = none ∧ s.plan.queue = [])
    ∧ (let s := pairedState (sweeping 1 .awaitPartner [0, 1] [0, 1] [{}, {}])
       (s.plan.job.any fun j =>
        j.phase == .awaitPartner && startBytes j != [] && s.plan.queue == [] && s.paired && !s.gradNan j.ctx j.desc.toNat
          && (told s { type := 0x10, body := startBytes j }).hasMsg 1 { type := 0x10, body := startBytes j }
          && (told s { type := 0x10, body := [] }).hasMsg 1 { type := 0x10, body := [] }
          && (List.range 2).all (fun h => s.records j.ctx (Pj.job j.desc.toNat) j.step h == [])
          && s.ue == [] && s.memsys.lines == [] && s.memsys.lost == [] && !(s.ctx j.ctx).lostPending) = true)
    ∧ (let m : Msg := { type := 0x11, body := leBytes 32 agreeRec }
       (told (pairedState ready) m).hasMsg 1 m = true ∧ (told (pairedState ready) m).plan.job = none)
    ∧ (∀ sum ∈ [7, 9], let s := pairedState (sweeping 129 .weights [2, 1] [0, 1] [{ staged := [slot 0 sum false] }, {}])
       agreeRec < 2 ^ 256 ∧ Jr.slab agreeRec = 0 ∧ s.paired = true ∧ s.stagedOf 0 = some (slot 0 sum false)
        ∧ (s.half 0).agrees = [] ∧ (s.half 0).arbit = none ∧ Jr.ctx agreeRec = 1 ∧ Jr.job agreeRec = 5 ∧ Jr.step agreeRec = 0
        ∧ Jr.state agreeRec = stagedCode 1 ∧ Jr.sum agreeRec = 7) := by decide +kernel

theorem witness_arbitration :
    (let m : Msg := { type := 0x12, body := recheckBody 0 [9, 1, 1] }
     let s := told (arb [7, 1, 1] none none none 8) m
     s.hasMsg 1 m = true ∧ s.stagedOf 0 = some (slot 0 7 false) ∧ nth 0 [7, 1, 1] 0 = (slot 0 7 false).sum ∧ (9 : Nat) ≠ 8
      ∧ ((s.half 0).arbit.any fun a => a.k == 0 && a.partner == none && a.partnerSum == 8) = true)
    ∧ (∀ pass : Bool, let m : Msg := { type := 0x13, body := katBody 0 pass }
       (told (arb [7, 1, 1] none none none 8) m).hasMsg 1 m = true)
    ∧ (∀ kat ∈ [none, some false], let s := arb [7, 1, 1] (some [8, 1, 1]) kat none 8
      ((s.half 0).arbit.any fun a => a.k == 0 && a.partner == some [8, 1, 1] && a.ownKat == none && a.await == none
        && a.partnerKat == kat && nth 0 [8, 1, 1] 0 == a.partnerSum && nth 0 a.own 0 == 7 && nth 0 a.own 1 == 1) = true
      ∧ s.digestAt 1 (force (force (pj 129) 5 4 1) 7 6 1).toNat 1 0 = 0)
    ∧ (let m : Msg := { type := 0x14, body := xferBytes 0 1 [1#8, 2#8] }
       let s := told (arb [9, 1, 1] (some [8, 1, 1]) none (some 2) (slabSum [1#8, 2#8])) m
       s.hasMsg 1 m = true ∧ (s.plan.job.any fun j => j.sweep == 1) = true
        ∧ ((s.half 0).arbit.any fun a => a.k == 0 && a.await == some 2 && slabSum [1#8, 2#8] == a.partnerSum) = true)
    ∧ (let m : Msg := { type := 0x14, body := xferBytes 0 1 [1#8, 2#8] }
       let s := told (pairedState (sweeping 129 .weights [2, 1] [0, 1] [{ staged := [fetched] }, {}])) m
       s.hasMsg 1 m = true ∧ s.stagedOf 0 = some fetched ∧ fetched.fetch = true ∧ (s.half 0).arbit = none
        ∧ slabSum [1#8, 2#8] = fetched.sum ∧ (s.plan.job.any fun j => j.sweep == 1) = true) := by decide +kernel

/-- A completed job whose slab 0 of the moments has the digest entry `sum`. -/
def known (sum : Nat) : State :=
  let d := force (force (pj 1) 5 4 1) 7 6 1
  let s := pairedState { ready with mem := memWrs [] (2 ^ 28 + 4096) (leBytes 8 sum) }
  { s with plan := { s.plan with known := [(1, 5, d)] } }

set_option maxRecDepth 100000 in
theorem witness_drift :
    let d := (force (force (pj 1) 5 4 1) 7 6 1).toNat
    let m : Msg := { type := 0x15, body := fetchBody ⟨1, 5, 0, 0⟩ }
    (∀ sum ∈ [1, 9], let s := told (known sum) m
      s.hasMsg 1 m = true ∧ s.knownJob 1 5 = some d ∧ s.paired = true ∧ s.plan.job = none)
    ∧ slabSum ((known 9).homeBytes 1 d 0 0) ≠ (known 9).digestAt 1 d 0 0
    ∧ slabSum ((known 1).homeBytes 1 d 0 0) = (known 1).digestAt 1 d 0 0
    ∧ (known 9).taskActive 8 = true ∧ (known 9).walkNext = some (SlabId.key ⟨1, 5, 0, 0⟩) := by decide +kernel


/-! ## The intake -/

/-- Stream 5 of context 1 RUNNING on Raorn stream 50: text (KIND 1, slots of 16 tokens), or raw frames (KIND 2, one channel
of 2 × 2 values, ROI mode as given). -/
def textCfg : Nat := 1 + 7 * 2 ^ 4 + 2 ^ 8 + 50 * 2 ^ 16 + 16 * 2 ^ 384 + 1000 * 2 ^ 448 + 2 ^ 480
def frameCfg (roi : Nat) : Nat :=
  2 + 4 * 2 ^ 4 + 2 ^ 8 + 50 * 2 ^ 16 + (if roi = 0 then 0 else 2 * 2 ^ 38) + roi * 2 ^ 41 + 2 ^ 44 + 2 * 2 ^ 416 + 2 * 2 ^ 432
    + 1000 * 2 ^ 448

def onStream (cfg : Nat) (x : IStream) : State :=
  let s := (ready.set 0x4110 6 cfg).set 0x4112 6 1
  { s with intake := { s.intake with streams := [(5, x)] } }

def toIntake (desc : Desc) : Dispatch := { disp desc with hdr := 3 }

/-- A dictionary of one token "a", numbered 300, with the byte tokens from 0. -/
def dictImg : List Byte :=
  let head := leBytes 4 0x4B544F4B ++ leBytes 4 1 ++ leBytes 4 0 ++ leBytes 4 0 ++ leBytes 8 1 ++ List.replicate 36 0#8
  let tail := leBytes 4 300 ++ leBytes 4 0 ++ [0x61#8]
  head ++ leBytes 4 (crc32 (head ++ List.replicate 4 0#8 ++ tail)) ++ tail

/-- The dictionary stands at offset 4,096; slot 2 is LOADED with it where `l` holds. -/
def dictState (l : Bool) : State :=
  { ready with mem := memWrs [] (2 ^ 28 + 4096) dictImg,
               intake := { ready.intake with dicts := [{}, {}, if l then ⟨true, 1, 1, 4096⟩ else {}, {}] } }

set_option maxRecDepth 100000 in
theorem witness_intake_commands :
    (let desc : Desc := BitVec.ofNat 512 (1 + 5 * 2 ^ 4 + 2 * 2 ^ 16 + 64 * 2 ^ 32 + 128 * 2 ^ 72 + 192 * 2 ^ 112)
     let s := onStream textCfg { kind := 1 }
     force desc 3 0 1 = desc ∧ hdrOk 3 Engine.intake.code = true ∧ s.mayDispatch 1 = true
      ∧ (taken s (toIntake desc) desc).batchOk 1 desc.toNat = true ∧ ∀ n < 8, (s.verdict 5 n).isNone = true)
    ∧ (let desc : Desc := BitVec.ofNat 512 (2 + 2 * 2 ^ 4 + 4096 * 2 ^ 6 + 8192 * 2 ^ 46)
       force desc 3 0 2 = desc ∧ ((dictState false).dictLoadOk desc.toNat && !(dictState false).dictLost (toIntake desc) desc.toNat) = true
        ∧ (dictState false).mayDispatch 1 = true ∧ (dictState false).intake.dicts.length = 4
        ∧ dictOk ((dictState false).dictImage 1 (Dc.image desc.toNat)) = true ∧ dictOk (ready.dictImage 1 4096) = false)
    ∧ (let n := 3 + 2 * 2 ^ 4
       (fld n 511 6 == 0 && (dictState true).dictMine 1 (Dc.slot n) && !(dictState true).dictInUse 1 (Dc.slot n)) = true)
    ∧ (let n := 4 + 2 * 2 ^ 4 + 64 * 2 ^ 6 + 3 * 2 ^ 46 + 128 * 2 ^ 78 + 16 * 2 ^ 118 + 256 * 2 ^ 150
       (fld n 511 190 == 0 && (dictState true).dictMine 1 (Dc.slot n)) = true ∧ 16 ≤ ((dictState true).ctx 1).partSize)
    := by decide +kernel

/-- A sample of three bytes of text, or a raw RGB frame of 16 × 16; numbers 0 and 1 of the stream are claimed. -/
def textSample (n : Nat) : Sample := ⟨n, 3 + 0x20 * 2 ^ 32, [0x61#8, 0x62#8, 0x63#8], false, false⟩
def rawFrame16 : List Byte := leBytes 2 16 ++ leBytes 2 16 ++ leBytes 1 2 ++ leBytes 3 0 ++ List.replicate 768 0x80#8
def frameSample (n : Nat) : Sample := ⟨n, 776 + 3 * 2 ^ 32, rawFrame16, false, false⟩

def claimed (cfg : Nat) (x : IStream) : State :=
  let f := { fly 3 .intake [] false with hdr := 3, desc := BitVec.ofNat 512 (1 + 5 * 16 + 2 * 2 ^ 16) }
  let s := withFlight (onStream cfg { x with claim := 2, arrived := 2 }) f
  { s with intake := { s.intake with batches := [⟨3, 5, 0, 2, []⟩] } }

set_option maxRecDepth 100000 in
/-- The intake's premises on those states: a stream without samples has no verdict. -/
theorem witness_intake_clean : CleanMemory (dictState true) (toIntake 0) ∧ Canonical (dictState true) ∧ FreshIds (dictState true)
    ∧ smWf ({} : IStream) (dictState true).intake.streams = true
    ∧ ∀ n, ((onStream textCfg { kind := 1 }).verdict 5 n).bind Verdict.over = none := by
  refine ⟨⟨⟨noErrors_of _ ?_, rfl, rfl⟩, ?_⟩, canonical_of _ ?_, ⟨?_, ?_⟩, ?_, fun n => rfl⟩ <;> decide +kernel

/-- The sample's header and bytes stand next on the Raorn stream of stream 5. -/
def sampled (s : State) (hdr : Nat) (data : List Byte) : State :=
  s.setStrm 50 { phase := .opened, req := ⟨0, 4, 0, 0⟩, rxBytes := leBytes 8 hdr ++ data }

set_option maxRecDepth 100000 in
theorem witness_samples :
    (let s := sampled (onStream textCfg { kind := 1 }) 3 [0x61#8, 0x62#8, 0x63#8]
     (s.strm 50).hearsAt 4 (s.istream 5).waiting (leBytes 8 3 ++ [0x61#8, 0x62#8, 0x63#8]) = true ∧ fld 3 31 0 = 3
      ∧ s.intakeState 5 = 1 ∧ s.siteBound 50 = false ∧ Ic.raorn (s.intakeCfg 5) = 50 ∧ s.intake.batches = []
      ∧ (s.istream 5).claim ≤ (s.istream 5).arrived ∧ (s.set 0x1061 4 (2 ^ 30 + 50)).siteBound 50 = true
      ∧ smWf ({} : IStream) s.intake.streams = true)
    ∧ (let s := claimed textCfg { kind := 1, samples := [textSample 0, { textSample 1 with hdr := 3 }] }
       s.batchOf 5 0 = some ⟨3, 5, 0, 2, []⟩ ∧ s.batchOf 5 1 = some ⟨3, 5, 0, 2, []⟩ ∧ (s.flight 3).isSome = true
        ∧ s.retaining = false ∧ 1 ∉ (s.istream 5).roiWait
        ∧ Ic.timeBudget (s.intakeCfg 5) ≠ 0 ∧ s.firstByteIn 5 1 = true ∧ s.verdict 5 1 = some (.hole 0x42 3)
        ∧ (match s.verdict 5 0 with | some (.slot _ n _) => n | _ => 0) = 3)
    ∧ (∀ roi ∈ [0, 1, 2], let s := claimed (frameCfg roi) { kind := 2, samples := [frameSample 0, frameSample 1], roiWait := [1] }
       (s.verdict 5 0 matches some (.picture _)) = true ∧ (s.verdict 5 1 matches some (.picture _)) = true
        ∧ 1 ∈ (s.istream 5).roiWait ∧ 0 ∉ (s.istream 5).roiWait ∧ Ic.roiMode (s.intakeCfg 5) = roi
        ∧ s.ue = [] ∧ s.memsys.lines = [] ∧ s.memsys.lost = [])
    ∧ ((claimed (frameCfg 2) {}).roiChoice (frameCfg 2) 1).isSome = true
    ∧ ({ claimed (frameCfg 1) {} with mem := memWrs [] (2 ^ 28) (leBytes 8 6) }.roiChoice (frameCfg 1) 1) = none
    ∧ (∀ st ∈ [2, 3], ((onStream textCfg { kind := 1 }).set 0x4112 6 st).intakeState 5 = st) := by decide +kernel

/-! ## The host port -/

/-- A packet of a type on stream 30 from host 9, port 4,000: its SEQ, the bytes given. -/
def pkt (type seq : Nat) (bs : List Byte) : Packet :=
  { addr := 9, port := 4000, ce := false, version := 1, type := type, flags := 0, rsv := 0, stream := 30, seq := seq, ack := 8,
    sack := 0, window := 16, len := bs.length, ts := 0, tsEcho := 0, payload := bs }

/-- S2 with that stream OPEN: it expects SEQ 5. -/
def heard (x : Strm) : State :=
  let s := inS2 []
  { s with net := { s.net with streams := [(30, { x with addr := 9, port := 4000, rxNext := 5 })] } }

def wire1 : TxPkt := { seq := 7, payload := [1#8], close := false, sentAt := 0, sends := 1, sacked := false, resent := false }

theorem witness_packet_heard (type seq : Nat) (h : 1 ≤ type) (h7 : type < 7) :
    PacketHeard (heard { phase := .opened, rxLimit := 100 }) (pkt type seq [1#8, 2#8]) := by
  have hb : packetBad (pkt type seq [1#8, 2#8]) = false := by
    simp [packetBad, pkt]; omega
  exact ⟨by decide +kernel, hb, by show ((heard { phase := .opened, rxLimit := 100 }).strm 30).phase ≠ .closed; decide +kernel,
    by show ((heard { phase := .opened, rxLimit := 100 }).strm 30).addr = 9; decide +kernel,
    by show ((heard { phase := .opened, rxLimit := 100 }).strm 30).port = 4000; decide +kernel,
    by show (heard { phase := .opened, rxLimit := 100 }).unserved 30 = false; decide +kernel⟩

/-- DATA in its place, ahead of it, before it, held already, beyond the window; a malformed packet. -/
theorem witness_raorn :
    (let x := (heard { phase := .opened, rxLimit := 100 }).strm 30
     x.wasReset = false ∧ x.tx.unacked = [] ∧ x.rxHeld = [] ∧ x.closeAt = none
      ∧ ∀ n ∈ [5, 6], seqLt n x.rxNext = false ∧ x.beyond (pkt 1 n [1#8, 2#8]) = false)
    ∧ seqLt 4 ((heard { phase := .opened, rxLimit := 100 }).strm 30).rxNext = true
    ∧ (((heard { phase := .opened, rxLimit := 100, rxHeld := [(6, [1#8])] }).strm 30).rxHeld.any fun h => h.1 == 6) = true
    ∧ ((heard { phase := .opened, rxLimit := 1 }).strm 30).beyond (pkt 1 5 [1#8, 2#8]) = true
    ∧ (∀ type ∈ [0, 4, 7, 15], (packetBad (pkt type 5 [])) = decide (type ≠ 4))
    ∧ (heard {}).linked = true ∧ smWf ({} : Strm) (heard {}).net.streams = true := by decide +kernel

theorem witness_raorn_streams :
    (let k := { pkt 3 5 (leBytes 16 3) with stream := 40 }
     let k1 := { pkt 3 5 ([1#8, 0#8, 0#8, 31#8] ++ leBytes 12 0) with stream := 40 }
     let s := heard {}
     s.linked = true ∧ packetBad k = false ∧ packetBad k1 = false ∧ (s.strm 40).phase = .closed ∧ openReq k = some ⟨5, 3, 0, 0⟩
      ∧ s.openResult ⟨5, 3, 0, 0⟩ 9 4000 = 0 ∧ openReq k1 = some ⟨5, 1, 0, 31⟩ ∧ s.openResult ⟨5, 1, 0, 31⟩ 9 4000 ≠ 0)
    ∧ ((heard { phase := .stopping, wasReset := true }).strm 30).wasReset = true
    ∧ (let x := (heard { phase := .stopping, closeIn := true, sentClose := true }).strm 30
       x.closeIn = true ∧ x.sentClose = true ∧ x.tx.unacked = [])
    ∧ ((heard { phase := .opened, ackDue := true }).strm 30).ackDue = true
    ∧ (heard { phase := .opened, ackDue := true }).unserved 30 = false := by decide +kernel

/-- A packet not acknowledged, on a priority that is paused or not; streams with something to send. -/
theorem witness_raorn_timers :
    (let s := heard { phase := .opened, tx := { unacked := [wire1] } }
     ((s.strm 30).tx.unacked.find? fun p => !p.sacked) = some wire1 ∧ wire1.sends < s.get 0x3010 6 ∧ (s.strm 30).wasReset = false
      ∧ (s.set 0x3010 6 1).get 0x3010 6 ≤ wire1.sends ∧ s.unserved 30 = false ∧ (s.strm 30).tx.again = []
      ∧ (∀ e ∈ s.net.streams, e.1 ≠ 30 → s.txReady e.1 e.2 = false)
      ∧ smGet 0 s.net.paused (s.pcpOf (s.strm 30).req.cls) = 0
      ∧ smGet 0 ({ s with net := { s.net with paused := [(s.pcpOf 0, 9)] } } : State).net.paused (s.pcpOf 0) ≠ 0)
    ∧ (let s := heard { phase := .opened, tx := { bytes := [1#8], cwnd := 65536, peerWindow := 4096 } }
       s.txAsks = [(30, 0)] ∧ (s.strm (arbWinner s.net.txPtr s.txAsks)).tx.again = [])
    ∧ (let s := heard { phase := .opened, tx := { unacked := [wire1], again := [7] } }
       let s2 := s.setStrm 40 (s.strm 30)
       s.txAsks = [(30, 0)] ∧ (s.strm 30).tx.again = 7 :: [] ∧ s2.txAsks.length = 2) := by decide +kernel

/-- A DATA stream 30 of the host, to context 1 or to model 254 that loads from it. -/
def dataState (l : List (Nat × Nat × Nat)) : State :=
  let s := inS2 l
  { s with net := { s.net with streams := [(30, { phase := .opened, req := ⟨0, 3, 0, 0⟩ })] },
           sched := { s.sched with ctxs := modNth s.sched.ctxs 1 fun _ => { ctx1 with model := 254 } } }

def imageRec : Nat := 1 + 3 * 2 ^ 16 + 2 ^ 19 + 30 * 2 ^ 50 + 8 * 2 ^ 304

/-- A message of the host that stands next on that stream. -/
def spoken (s : State) (op : Nat) (q : DataReq) (body : Bool) : State :=
  s.setStrm 30 { s.strm 30 with rxBytes := dataBytes op q body }

def dataReq : DataReq := { stream := 30, ctx := 1, model := 0, reason := 0, tag := 1, off := 64, len := 2, body := [1#8, 2#8] }

theorem witness_data_heard : ∀ p ∈ [((1 : Nat), true), (3, false), (6, true), (2, false), (4, true), (5, false), (7, false), (0, false),
      (8, false), (255, false)],
    let s := spoken (dataState []) p.1 dataReq p.2
    (s.strm 30).hears 3 (dataBytes p.1 dataReq p.2) = true ∧ s.inS2 = true ∧ (p.2 = true → dataReq.body.length = dataReq.len) := by
  decide +kernel

theorem witness_data :
    (let q := dataReq
     let s := spoken (dataState []) 1 q true
     DataHeard s 1 q true ∧ s.rangeReason q = 0 ∧ s.rangeReason { q with off := 2 ^ 30 } ≠ 0)
    ∧ (let q : DataReq := { dataReq with ctx := 0, model := 254, off := 0, len := 8, body := List.replicate 8 1#8 }
       let s := spoken (dataState [(0x4001, 255, imageRec), (0x4002, 255, 2), (0x4003, 255, 1)]) 6 q true
       (s.strm 30).hears 3 (dataBytes 6 q true) = true ∧ s.modelState 254 = 2 ∧ Rec.sourceStream (s.record 254) = 30
        ∧ Rec.imageBytes (s.record 254) = 8 ∧ s.modelCtx 254 < 64 ∧ s.sched.ctxs.length = 64)
    ∧ (StreamsOk (dataState []) ∧ Canonical (dataState []) ∧ NoErrors (dataState [])) := by
  refine ⟨⟨⟨?_, ?_, ?_⟩, ?_⟩, ?_, show smWf ({} : Strm) (dataState []).net.streams = true from ?_, canonical_of _ ?_, noErrors_of _ ?_⟩ <;>
    decide +kernel

/-- A frame of one destination, EtherType and body, with its FCS. -/
def ethFrame (ety : Nat) : List Byte :=
  let b := beBytes 6 1 ++ beBytes 6 2 ++ beBytes 2 ety ++ List.replicate 46 0#8
  b ++ leBytes 4 (crc32 b)

theorem witness_frames_in :
    frameFcsOk (ethFrame 0x0800) = true ∧ (inS2 []).filtered (ethFrame 0x0800) = true ∧ frameFcsOk (List.replicate 64 0#8) = false := by
  decide +kernel

theorem witness_ethernet :
    (let s := inS2 []
     s.linked = true ∧ smWf 0 s.net.paused = true ∧ smGet 0 s.net.paused 0 = 0 ∧ s.net.linkUp = true
      ∧ s.takesDst (leBytes 16 s.ipv6) = true ∧ s.takesDst (leBytes 16 1) = false
      ∧ (let p := { s with net := { s.net with paused := [(0, 9)] } }
         smGet 0 p.net.paused 0 ≠ 0 ∧ p.takesDst (leBytes 16 s.ipv6) = true ∧ smWf 0 p.net.paused = true)
      ∧ 5 ∈ ({ s with net := { s.net with soliciting := [5] } }).net.soliciting
      ∧ ({ s with net := { s.net with neigh := [(9, 77)] } }.net.neigh.any fun n => n.1 == 9) = true
      ∧ ({ s with net := { s.net with xoff := true } }).net.xoff = true)
    ∧ (let s := up [(0x2000, 1, 4)]
       s.net.linkUp = false ∧ s.pkg.resetHeld = false ∧ s.pkg.booted = true ∧ bit (s.get 0x2203 7) 0 = false ∧ s.dieState 13 ≠ 5
        ∧ s.dieState 13 ≠ 4 ∧ s.inS2 = true ∧ ({ s with net := { s.net with wantFull := true } }).net.wantFull = true) := by
  decide +kernel

/-! ## The open site, the Tenon links, the Dovetail ports -/

/-- The open site UP with its die admitted, channel 3 bound inbound, channel 4 outbound. -/
def site (x : SiteCh) (out : List Byte) : State :=
  let s := inS2 [(0x1060, 1, 1), (0x1011, 15, 3), (0x1061, 4, 2 ^ 30 + 50), (0x1061, 5, 2 ^ 31 + 51)]
  { s with pkg := { s.pkg with site := [(3, x), (4, { outBytes := out, outCredits := 1 })] } }

theorem witness_site :
    (let hdr := 9 * 2 ^ 48 + 2 * 2 ^ 32 + 3 * 2 ^ 22
     let s := site { inCredits := 64 } []
     s.siteLive = true ∧ Os.kind hdr = 0 ∧ s.siteHdrOk hdr [1#8, 2#8] = true ∧ Os.channel hdr = 3
      ∧ cdiv 2 256 ≤ (s.siteCh 3).inCredits ∧ ((site { seq := some 9 } []).siteCh 3).inCredits < cdiv 2 256
      ∧ s.siteHdrOk hdr [1#8] = false ∧ smWf ({} : SiteCh) s.pkg.site = true
      ∧ s.siteHdrOk (setFld (3 * 2 ^ 22) 31 28 1) [] = true)
    ∧ (∀ p ∈ [(([] : List Byte), 0), ([1#8, 2#8], 2), (List.replicate 300 1#8, 300)], let s := site {} p.1
       s.siteLive = true ∧ s.siteHdrOk (setFld (4 * 2 ^ 22 + 7) 31 28 2) [] = true
        ∧ Os.channel (setFld (4 * 2 ^ 22 + 7) 31 28 2) = 4 ∧ (s.siteCh 4).outBytes.length = p.2
        ∧ cdiv p.2 256 ≤ (s.siteCh 4).outCredits + Os.arg (setFld (4 * 2 ^ 22 + 7) 31 28 2)) := by decide +kernel

/-- CD3 and the IOD joined by link 16, CD0 and MD0 by link 0, the latter's other link UP or DOWN; all admitted. -/
def ring (l : List (Nat × Nat × Nat)) : State :=
  inS2 ([(0x1050, 1, 3), (0x1011, 1, 3), (0x1011, 4, 3), (0x1011, 5, 3), (0x1011, 6, 3), (0x1011, 7, 3)] ++ l)

def direct : TenonHop := { link := 16, toB := true, src := 3, dst := 6 }

/-- From CD0 to CD1 with their link DOWN: by MD0. -/
def detour : TenonHop := { link := 0, toB := true, src := 0, dst := 1 }

theorem witness_tenon :
    (let s := ring []
     s.flitComes direct 0 = true ∧ ((s.tenon 16).dir true).rxSeq = 0 ∧ linkTo 16 true = 6
      ∧ s.flitComes { direct with dst := 2 } 0 = false ∧ s.staleReply (0, 1, 4, 0) = true ∧ s.staleReply (0, 0, 4, 0) = false)
    ∧ (let s := ring [(0x1040, 1, 3), (0x1042, 1, 3)]
       s.link 9 = 0 ∧ s.flitComes detour 0 = true ∧ linkTo 0 true ≠ 1)
    ∧ smWf ({} : TenonPath) (ring []).pkg.paths = true ∧ smWf ({} : Tenon) (ring []).pkg.links = true
    ∧ (let s := ring []
       s.linkUp 16 = true ∧ (s.tenon 16).eqDone = false
        ∧ (s.setTenon 16 { eqDone := true }).linkUp 16 = true ∧ ((s.setTenon 16 { eqDone := true }).tenon 16).eqDone = true) := by
  decide +kernel

/-- Port 2 in a state of R357. -/
def port (st : Nat) (x : DvPort) : State :=
  let s := inS2 [(0x3100, 3, st * 2 ^ 24)]
  { s with fab := { s.fab with ports := modNth s.fab.ports 2 fun _ => x } }

def flit (body : List Byte) : List Byte := body ++ (leBytes 8 (crc64 body)).reverse

set_option maxRecDepth 100000 in
theorem witness_fabric :
    (∀ st ∈ [1, 2, 3, 4, 5, 6], (port st {}).portState 2 = st) ∧ bit ((port 1 {}).get 0x2203 3) 0 = false
    ∧ (port 2 {}).fab.ports.length = 6 ∧ (port 2 {}).portUp 2 = true ∧ (port 2 {}).fab.pair.mirrorQ = []
    ∧ (let head := (leBytes 8 (2 ^ 34)).reverse ++ List.replicate 240 0#8
       (flit head).length = 256 ∧ crc64 ((flit head).take 248) = beNat ((flit head).drop 248)
        ∧ fld (beNat ((flit head).take 8)) 36 34 ≠ 0 ∧ fld (beNat ((flit head).take 8)) 63 52 = ((port 2 {}).dv 2).rxSeq
        ∧ bit (beNat ((flit head).take 8)) 38 = false)
    ∧ ((port 2 { sinceAck := 1 }).dv 2).sinceAck ≠ 0
    ∧ ((port 2 { unacked := [(0, ⟨0, 1, 0, [], 0⟩)], replays := 15 }).dv 2).unacked ≠ [] ∧ ((port 2 { eqDone := true }).dv 2).eqDone = true
    := by decide +kernel

/-! ## The pair -/

def pairIn (st : Nat) (l : List (Nat × Nat × Nat)) : State := inS2 ((0x3111, 1, st) :: (0x3101, 1, 1) :: l)

def x9 : RefillCtx :=
  { ctx := 9, model := 7, record := 1 + 3 * 2 ^ 16 + 2 ^ 19 + 2 ^ 38 + 8 * 2 ^ 50 + 2 ^ (264 + 39) + 2 ^ 20 * 2 ^ 304,
    part := (2 ^ 30, 2 ^ 20), cache := (0, 0), pool := (0, 0), jobs := [] }

theorem witness_pair :
    (pairIn 2 []).paired = true ∧ (pairIn 2 []).pairState = 2 ∧ (pairIn 2 []).fab.pair.mirrorQ = []
    ∧ (pairIn 2 []).plan.job = none ∧ (pairIn 2 []).plan.queue = [] ∧ (∀ st ∈ [0, 1, 3, 4, 5, 6, 7], (pairIn st []).pairState = st)
    ∧ (pairIn 5 []).holders = [] ∧ (pairIn 7 []).fab.pair.hello = none
    ∧ mirrored 0x4111 = true ∧ (pairIn 2 []).member = 0 ∧ (pairIn 2 [(0x3112, 2, 1)]).member = 1 ∧ (pairIn 0 []).paired = false
    ∧ (pairIn 2 []).fab.pair.localClaims = [] := by decide +kernel

/-- PAIR_HELLO of a partner of serial 7: accepted in each control, refused for its measurement, a former partner's, one that no
pair is formed with. -/
theorem witness_pair_hello :
    let m0 := leNat State.reset.sec.measure
    (∀ st ∈ [0, 1, 2, 3, 4, 5], ∀ c ∈ [1, 2, 3], let m : Msg := { type := 3, body := helloBody 7 m0 c false }
      (told (pairIn st []) m).hasMsg 1 m = true)
    ∧ (∀ c ∈ [(1, 1), (2, 3), (3, 2)], let s := pairIn 1 [(0x3110, 1, c.1)]
      s.helloReason 7 m0 c.2 false = 0 ∧ s.pairControl = c.1)
    ∧ (let m : Msg := { type := 3, body := helloBody 7 (m0 + 1) 1 false }
       let s := told (pairIn 1 [(0x3110, 1, 1)]) m
       s.hasMsg 1 m = true ∧ s.helloReason 7 (m0 + 1) 1 false = 2)
    ∧ (let s := pairIn 3 [(0x3110, 1, 1)]
       ({ s with fab := { s.fab with pair := { s.fab.pair with former := some 7 } } } : State).fab.pair.former = some 7
        ∧ s.pairControl ≠ 2) := by decide +kernel

/-- The partner's other messages, delivered. -/
theorem witness_pair_messages :
    (∀ m ∈ [({ type := 1, id := 9 } : Msg), { type := 2, id := 9 }, { type := 4 }, { type := 5, body := mirrorBody 0x4111 1 [5#8] },
        { type := 6, id := 0, body := mirrorBody 0x4111 1 [5#8] }, { type := 7, body := claimBody [1, 2, 3] }],
      (told (pairIn 2 []) m).hasMsg 1 m = true)
    ∧ (pairIn 2 []).fab.pair.appliedMirror = 0
    ∧ ({ (pairIn 2 []).fab.pair with localClaims := [[1, 2, 3]] } : Pair).localClaims = [[1, 2, 3]] := by decide +kernel

theorem witness_refill :
    (let s := pairIn 4 []
     s.fab.pair.sent = false ∧ s.sched.flights = [] ∧ s.sched.interrupted = [] ∧ s.sched.suspects = [] ∧ s.plan.job = none
      ∧ (∀ h ∈ s.holders, h.2.phase = .ready) ∧ s.sched.lists = [] ∧ s.sched.ctxs.length = 64)
    ∧ (∀ x ∈ [x9, { x9 with record := 0 }], let r : Refill := { objs := [], tables := [], cursors := [], ctxs := [x] }
       let m : Msg := { type := 0x30, body := refillBytes r }
       let s := told (pairIn 5 []) m
       s.hasMsg 1 m = true ∧ s.pairState = 5 ∧ s.holders = [] ∧ s.canCreate x = decide (x.record ≠ 0))
    ∧ (∀ crc ∈ [crc64 [1#8], 0], let m := refillMsg 0 [1#8] crc
       let s := told (pairIn 5 []) m
       let t := { s with sched := { s.sched with ctxs := modNth s.sched.ctxs 9 fun _ => { ctx1 with phase := .loading } } }
       t.hasMsg 1 m = true ∧ (t.ctx 9).phase = .loading ∧ 0 + 1 ≤ (t.ctx 9).partSize ∧ t.ue = [] ∧ t.memsys.lines = []
        ∧ (crc = 0 → crc64 [1#8] ≠ crc ∧ (9, 0) ∉ t.fab.pair.refillFailed)
        ∧ (9, 0) ∈ ({ t.fab.pair with refillFailed := [(9, 0)] } : Pair).refillFailed)
    ∧ (let m : Msg := { type := 0x32, body := beBytes 8 (pairIn 5 []).digestCrc }
       let s := told (pairIn 5 []) m
       let d := told { pairIn 4 [] with fab := { (pairIn 4 []).fab with pair := { (pairIn 4 []).fab.pair with sent := true } } } m
       s.hasMsg 1 m = true ∧ s.holders = [] ∧ s.digestCrc = (pairIn 5 []).digestCrc ∧ d.hasMsg 1 m = true ∧ d.pairState = 4
        ∧ d.fab.pair.sent = true) := by decide +kernel


/-! ## Ill-formed commands: one for each check, and each is refused; well-formed ones are not -/

/-- Every field of a dispatch out of its range, one at a time. -/
theorem test_illFormed_dispatch : ([{ disp 0 with ctx := 64 }, { disp 0 with stream := 16384 }, { disp 0 with listTag := 2 ^ 32 },
    { disp 0 with entry := 4096 }, { disp 0 with hdr := 2 ^ 64 }, { disp 0 with env := { hang := [80000] } },
    { disp 0 with env := { illegal := [80000] } }, { disp 0 with env := { contests := [⟨.media, 4, [(0, 0), (1, 0)]⟩] } },
    { disp 0 with env := { contests := [⟨.media, 0, [(0, 0)]⟩] } }, { disp 0 with env := { contests := [⟨.pool, 0, [(0, 0), (0, 0)]⟩] } },
    { disp 0 with env := { bankHolds := [⟨80000, 0, 0, 0⟩] } }, { disp 0 with env := { prefetched := [549487378432] } }].any fun d => wellFormed (.matmul d)) = false
    ∧ wellFormed (.matmul (disp 0)) = true := by decide +kernel

theorem test_illFormed_list : ([{ list254 with stream := 16384 }, { list254 with hdr := 2 ^ 128 + list254.hdr },
    { list254 with entries := [(2 ^ 64, 0)] }, { list254 with entries := [] }, { list254 with row := [1#8] }].any fun q => wellFormed (.commandList q)) = false
    ∧ wellFormed (.commandList list254) = true := by decide +kernel

theorem test_illFormed_request : (let q := ask 0x2000 1 0 0
    [{ q with stream := 16384 }, { q with op := 256 }, { q with tag := 2 ^ 32 }, { q with index := 2 ^ 16 }, { q with sub := 256 },
      { q with length := 2 ^ 32 }, { q with rsv := 2 ^ 32 }, { q with rivals := [16384] }].any fun q => wellFormed (.read q)) = false
    ∧ wellFormed (.read (ask 0x2000 1 0 0)) = true := by decide +kernel

theorem test_illFormed_packet : (let k := pkt 1 5 []
    [{ k with type := 16 }, { k with addr := 2 ^ 128 }, { k with port := 2 ^ 16 }, { k with version := 16 }, { k with flags := 256 },
      { k with stream := 16384 }, { k with seq := 2 ^ 32 }, { k with ack := 2 ^ 32 }, { k with sack := 2 ^ 64 },
      { k with window := 2 ^ 16 }, { k with len := 2 ^ 16 }, { k with payload := List.replicate 8193 0#8 }].any
      fun k => wellFormed (.data k)) = false ∧ wellFormed (.data (pkt 1 5 [])) = true := by decide +kernel

theorem test_illFormed_data_message : (let q : DataReq := ⟨30, 1, 0, 0, 1, 0, 0, []⟩
    [{ q with stream := 16384 }, { q with ctx := 256 }, { q with model := 256 }, { q with reason := 256 }, { q with tag := 2 ^ 32 },
      { q with off := 2 ^ 64 }, { q with len := 2 ^ 64 }].any fun q => wellFormed (.dataRead q)) = false
    ∧ wellFormed (.deviceOpFromHost 3 ⟨30, 1, 0, 0, 1, 0, 0, []⟩) = false
    ∧ wellFormed (.reservedDataOp 7 ⟨30, 1, 0, 0, 1, 0, 0, []⟩) = false
    ∧ wellFormed (.reservedDataOp 256 ⟨30, 1, 0, 0, 1, 0, 0, []⟩) = false
    ∧ wellFormed (.dataRead ⟨30, 1, 0, 0, 1, 0, 0, []⟩) = true := by decide +kernel

theorem test_illFormed_training : ([{ run16 with link := 19 }, { run16 with link := 8 }, { run16 with failedAB := 2 ^ 66 },
    { run16 with failedBA := 2 ^ 66 }].any fun r => wellFormed (.tenonTrainingDone r false)) = false
    ∧ wellFormed (.tenonTrainingDone run16 false) = true
    ∧ wellFormed (.refillBegin ⟨[], [], [], [{ x9 with ctx := 64 }]⟩) = false := by decide +kernel

/-- A number past the end of its range, for each kind of number that a command names. -/
theorem test_illFormed_numbers : ([.admitList 255, .loadFailed 255, .modelStopComplete 0 0 [⟨8, 0, 0, 0⟩] true, .modelStopComplete 0 0 [⟨0, 32, 0, 0⟩] true,
    .modelStopComplete 255 0 [] true, .wipeDone 0 [⟨0, 0, 64, 0⟩] [], .rejoin 1 0 true 0 [] 0 [⟨0, 0, 0, 32768⟩], .abortLimit 0 2,
    .streamStopComplete 16384, .neighborSolicitation (2 ^ 128) 0 0, .neighborSolicitation 0 (2 ^ 48) 0,
    .neighborAdvertisement 0 (2 ^ 48) true true, .echoRequest 0 0 (2 ^ 16) 0 [], .pfc 256 (List.replicate 8 0), .pfc 0 [],
    .pfc 0 (List.replicate 8 (2 ^ 16)), .pfcPauseEnd 8, .idleLoss 2, .openSiteData (2 ^ 64) [], .tenonFlit ⟨19, true, 0, 4⟩ 0 true none [],
    .tenonFlit ⟨0, true, 7, 4⟩ 0 true none [], .tenonFlit ⟨0, true, 0, 7⟩ 0 true none [],
    .dvFlit 6 (List.replicate 256 0#8), .dvFlit 0 [], .portRetry 6, .pairHello (2 ^ 64) 0 0 false, .mirrorWrite (2 ^ 16) 0 [],
    .mirrorApply 0 0 256 [], .slabXfer 0 2 [], .driftFetch 64 0 0 0, .collHead 6 0 [], .refillData 64 0 [] 0,
    .refillEnd (2 ^ 64), .slabStaged 2 [] [], .sample 128 0 [], .sample 0 (2 ^ 64) [], .hbmRefresh 8 { pc := 0 }, .hbmRefresh 0 { pc := 32 },
    .hbmTempSample 2 [0, 0, 0, 0], .hbmTempSample 0 [], .prefetch 64 0 false, .tgenRunDone 0 0 0 0 0 0 [] true,
    .tgenRunDone 129 0 0 0 0 0 [] true, .wipeDone 0 [] [8], .hbmScrub 0 3 false false, .sramScrub 0 3 false, .hbmRetrain 129 true,
    .opticalTune 7 0 false, .avs [(7, 0)], .avsStep 7, .digestWalk 0 0 0 2 false, .pauseLimit 9, .groupIdleDelay 40,
    .dieIdleDelay 4, .clockStartComplete true 7, .clockStartComplete false 40, .clockLoss 14, .crashDump 7 0 [],
    .crashDump 0 0 [], .rejoin 6 0 true 0 [] 0 [], .signingComplete 2, .suppliesGood (2 ^ 11) false, .hbmTrainingDone [],
    .s1End [14], .mainRailOutOfRange 9, .refClockEvent 3, .dieTempSample [], .pmbAlert 7 true, .laserLow 7, .slabHome 2,
    .pllLockTimeout 7, .opticalEnginesTuned [7], .openSiteDiscovery true true 16 32 (2 ^ 128), .testAccessPort 256].any wellFormed)
    = false := by decide +kernel


/-! ## Single steps and values from the manual's worked examples -/

/-- An address of the slice of core 79,999 in the slot of context 1. -/
def inSlice (off : Nat) : Nat := flat (ready.view 1 79999 0) 0 off

/-- The state that holds bytes in that slice and tensors 20 to 22. -/
def sliceState (ts : List (Nat × Nat)) (data : List (Nat × List Byte)) : State :=
  { ready with mem := data.foldl (fun m p => memWrs m (inSlice p.1) p.2) [],
               sched := { ready.sched with ctxs := modNth ready.sched.ctxs 1 fun _ => { ctx1 with tensors := ts } } }

/-- What a MATMUL of tensors 20 and 21 leaves at slice address 512: four bytes, and the counter TRUNCATED_OUTPUTS. -/
def product (s : State) : Nat × Nat :=
  match exec (.matmul (disp (cmd 20 21 22 0xFFF 0))) s with
  | .next t => (leNat ((List.range 4).map fun i => memRd t.mem (inSlice (512 + i))), t.ctrAt 0x8030 1)
  | _ => (0, 0)

/-- The FP32 result, one element at slice address 512, no row or column masked. -/
def result : Nat := ten 6 0 1 512 [1, 1] [1] + (2 ^ 64 - 1) * 2 ^ 428

/-- The worked example "an exact FP8 sum" of chapter 02: 0x3B00_4000, and no truncated output. -/
theorem test_matmul_exact_fp8_sum :
    product (sliceState [(20, ten 1 0 1 0 [4, 1] [4]), (21, ten 1 0 1 64 [1, 4] [1]), (22, result)]
      [(0, [0x7E#8, 0x01#8, 0xFE#8, 0x01#8]), (64, [0x7E#8, 0x01#8, 0x7E#8, 0x38#8])]) = (0x3B004000, 0) := by decide +kernel

/-- A BF16 tensor with its sidecar at `sc`: its row bytes, then its column bytes (R60). -/
def bf (addr sc : Nat) (exts strides : List Nat) : Nat := ten 5 0 1 addr exts strides - 4096 * 2 ^ 342 + sc * 2 ^ 342

/-- The worked example "a BF16 anchor": the FP32 output is 0x2900_0000, and TRUNCATED_OUTPUTS rises by 1. -/
theorem test_matmul_bf16_anchor :
    product (sliceState [(20, bf 0 128 [4, 1] [4]), (21, bf 64 192 [1, 4] [1]), (22, result)]
      [(0, leBytes 2 0x3F80 ++ leBytes 2 0x2181 ++ leBytes 2 0x4040 ++ leBytes 2 0xBFC0),
       (64, leBytes 2 0x2900 ++ leBytes 2 0x3181 ++ leBytes 2 0x3F80 ++ leBytes 2 0x4000),
       (128, [0x80#8, 0x7F#8, 0x43#8, 0x80#8, 0x7F#8]), (192, [0x52#8, 0x63#8, 0x7F#8, 0x80#8, 0x80#8])])
      = (0x29000000, 1) := by decide +kernel

/-- R527's check value. -/
theorem test_crc64_check_value : crc64 [0x31#8, 0x32#8, 0x33#8, 0x34#8, 0x35#8, 0x36#8, 0x37#8, 0x38#8, 0x39#8] = 0x6C40DF5F0B497347 := by
  decide +kernel

/-- The worked example "a batch with two holes" of chapter 09: the slot is 573,568 bytes, the mask byte 0xDB. -/
theorem test_slot_size : slotSize (2 + 5 * 2 ^ 4 + 2 * 2 ^ 38 + 3 * 2 ^ 44 + 256 * 2 ^ 416 + 256 * 2 ^ 432) 2 = 573568 := by
  decide +kernel

theorem test_batch_mask : maskBytes 8 ((List.range 8).map fun i => ⟨i, if i = 2 then 0x40 else if i = 5 then 0x41 else 0, 0, 0xFFFF, 0⟩)
    = [0xDB#8] := by decide +kernel

/-- The worked example "a power-of-two stride" of chapter 08: address k × 2^24 lies on HBM0, pseudo channel k, bank 0, row k. -/
theorem test_address_map : ∀ k < 32, stackOf (k * 2 ^ 24) = 0 ∧ pseudoOf (k * 2 ^ 24) = k ∧ bankOf (k * 2 ^ 24) = 0 ∧ rowOf (k * 2 ^ 24) = k := by
  decide +kernel

end Sys2Proof.Tests
end

section
/-! PROOF. An anchored sum does not depend on the order of its addends (R72, R528): the rows of R528 only ask which addends occur, and
the frame and the integer sum of R72 fold a commutative operation over the finite ones. -/

namespace Sys2Proof.Machine

/-- R72: the exponent of the frame is a maximum and the accumulator is an exact integer sum, so neither sees the order. -/
theorem anchoredExact_eq_of_perm {n : Nat} {p q : List Q} (h : p.Perm q) : anchoredExact n p = anchoredExact n q := by
  have frame (b : Int) : p.foldl (fun m x => max m (exactExp x)) b = q.foldl (fun m x => max m (exactExp x)) b :=
    h.foldl_eq' (by intros; omega) b
  have acc (w b : Int) : p.foldl (fun t x => t + (x.scale w).trunc) b = q.foldl (fun t x => t + (x.scale w).trunc) b :=
    h.foldl_eq' (by intros; exact Int.add_right_comm ..) b
  simp only [anchoredExact, frame, acc]

/-- Settles O20: rows 1-4 of R528 test which special addends occur; otherwise the number of addends and, up to order, the finite ones
are the same. -/
theorem anchoredSumIgnoresOrder : Obligations.AnchoredSumIgnoresOrder := by
  intro l m h
  have special (c : Addend) : l.any (· == c) = m.any (· == c) := h.any_eq
  simp only [anchoredSum, special, h.length_eq, anchoredExact_eq_of_perm (h.filterMap _)]

end Sys2Proof.Machine
end

section
/-! PROOF. The frame of completions and of memory accesses: what sending a completion (R14, R349) and reading a member's row
(R327) leave as it was. `Reported` is that frame, carried through every operation that either of them is made of. -/

namespace Sys2Proof.Machine

/-! ## The frame -/

/-- A state without what the sending of completions, event records and log entries, and the taking of list entries, change. -/
def State.besideReports (s : State) : State :=
  { s with
    ctr := [], log := {}, net := { s.net with streams := [], wire := [] }, bg := { s.bg with evSeq := 0 },
    pkg := { s.pkg with site := [] }, sched := { s.sched with ctxs := [], lists := [], dispTimes := [], comps := [] } }

/-- A state without memory and the memory system either, and without the objects, one of which records an uncorrectable error. -/
def State.besideMemory (s : State) : State := { s.besideReports with mem := [], ue := [], memsys := {}, obj := [] }

/-- Between two states the completions `sent` were sent, and, where `acc` is set, memory was accessed. No counter before those of
the memory system (index 0x8036) takes part; `k` is the key of one of them. -/
structure Reported (acc : Bool) (k : Nat) (sent : List (Addr × Status)) (s t : State) : Prop where
  early : k < objKey 0x8036 0
  rest : bif acc then t.besideMemory = s.besideMemory else t.besideReports = s.besideReports
  ctrWf : smWf 0 s.ctr = true → smWf 0 t.ctr = true
  count : smWf 0 s.ctr = true → smGet 0 t.ctr k = smGet 0 s.ctr k
  sends : Sends s t sent

namespace Reported
variable {acc : Bool} {k : Nat} {sent : List (Addr × Status)} {s₀ s t : State}

theorem refl (s : State) (hk : k < objKey 0x8036 0) : Reported acc k [] s s :=
  ⟨hk, by cases acc <;> rfl, id, fun _ => rfl, (List.append_nil _).symm⟩

/-- Accesses to memory may be allowed for where there were none. -/
theorem withAccesses (h : Reported false k sent s t) : Reported true k sent s t :=
  have rest : t.besideReports = s.besideReports := h.rest
  { h with rest := show t.besideMemory = s.besideMemory by unfold State.besideMemory; rw [rest] }

/-- What neither reports nor accesses to memory change is as it was. -/
theorem unchanged {α : Type} (f : State → α) (h : Reported acc k sent s t)
    (hf : ∀ u : State, f u.besideMemory = f u := by exact fun _ => rfl) : f t = f s := by
  have rest : t.besideMemory = s.besideMemory := by
    cases acc
    · exact h.withAccesses.rest
    · exact h.rest
  rw [← hf t, rest, hf]

/-- What reports do not change is as it was, where memory was not accessed. -/
theorem untouched {α : Type} (f : State → α) (h : Reported false k sent s t)
    (hf : ∀ u : State, f u.besideReports = f u := by exact fun _ => rfl) : f t = f s := by
  have rest : t.besideReports = s.besideReports := h.rest
  rw [← hf t, rest, hf]

theorem cores (h : Reported acc k sent s t) : t.cores = s.cores := h.unchanged State.cores

theorem outsideCores (h : Reported acc k sent s t) : OutsideCores s t where
  pending := h.unchanged State.pending
  time := h.unchanged State.time
  seats := h.unchanged State.seats
  fab := h.unchanged State.fab
  plan := h.unchanged State.plan
  intake := h.unchanged State.intake
  sec := h.unchanged State.sec
  fuses := h.unchanged fun u => u.pkg.fuses

theorem coresUntouched (h : Reported false k sent s t) : CoresUntouched s t where
  outside := h.outsideCores
  mem := h.untouched State.mem
  ue := h.untouched State.ue
  cores := h.cores
  memsys := h.untouched State.memsys
  obj := h.untouched State.obj

/-- A step that keeps the counters and the completions sent. -/
theorem step (h : Reported acc k sent s₀ s)
    (rest : bif acc then t.besideMemory = s.besideMemory else t.besideReports = s.besideReports)
    (ctr : t.ctr = s.ctr) (comps : t.sched.comps = s.sched.comps) : Reported acc k sent s₀ t where
  early := h.early
  rest := by
    have hrest := h.rest
    cases acc <;> exact Eq.trans rest hrest
  ctrWf hwf := ctr ▸ h.ctrWf hwf
  count hwf := ctr ▸ h.count hwf
  sends := by
    have hsends := h.sends
    unfold Sends at hsends ⊢
    rw [comps, hsends]

/-- A step that changes only what `State.besideReports` leaves out, other than counters and completions. -/
theorem report (h : Reported acc k sent s₀ s) (rest : t.besideReports = s.besideReports) (ctr : t.ctr = s.ctr)
    (comps : t.sched.comps = s.sched.comps) : Reported acc k sent s₀ t :=
  h.step (by
    cases acc
    · exact rest
    · show t.besideMemory = s.besideMemory
      unfold State.besideMemory
      rw [rest]) ctr comps

/-- A step that changes only memory, uncorrectable units, the memory system and objects. -/
theorem memory (h : Reported true k sent s₀ s) (rest : t.besideMemory = s.besideMemory) (ctr : t.ctr = s.ctr)
    (comps : t.sched.comps = s.sched.comps) : Reported true k sent s₀ t :=
  h.step rest ctr comps

/-- One of two states, as a condition chooses. -/
theorem of_ite {p : Prop} [Decidable p] (hs : Reported acc k sent s₀ s) (ht : Reported acc k sent s₀ t) :
    Reported acc k sent s₀ (if p then s else t) := by
  split <;> assumption

/-- A fold of operations each of which keeps the frame. -/
theorem foldl {α β : Type} {f : β → α → β} {state : β → State} (step : ∀ x a, Reported acc k sent s₀ (state x) →
    Reported acc k sent s₀ (state (f x a))) (l : List α) {x : β} (h : Reported acc k sent s₀ (state x)) :
    Reported acc k sent s₀ (state (l.foldl f x)) :=
  List.foldlRecOn (motive := fun x => Reported acc k sent s₀ (state x)) l f h fun x hx a _ => step x a hx

/-- A fold of operations each of which sends one completion. -/
theorem foldl_sends {α : Type} {f : State → α → State} {g : α → Addr × Status} (l : List α)
    (step : ∀ a ∈ l, ∀ sent s, Reported acc k sent s₀ s → Reported acc k (sent ++ [g a]) s₀ (f s a))
    (h : Reported acc k sent s₀ s) : Reported acc k (sent ++ l.map g) s₀ (l.foldl f s) := by
  induction l generalizing sent s with
  | nil => simpa using h
  | cons a l ih =>
    simpa using ih (fun b hb => step b (List.mem_cons_of_mem a hb)) (step a List.mem_cons_self sent s h)

/-! ## Reports: counters, streams, log entries, completions -/

theorem bump_ne {i j n : Nat} (h : Reported acc k sent s₀ s) (hne : k ≠ objKey i j) :
    Reported acc k sent s₀ (s.bump i j n) where
  early := h.early
  rest := h.rest
  ctrWf hwf := State.bump_ctr_wf (h.ctrWf hwf)
  count hwf := (smGet_ctrAdd_ne (h.ctrWf hwf) hne).trans (h.count hwf)
  sends := h.sends

theorem bump (h : Reported acc k sent s₀ s) (i j n : Nat) (hi : 0x8036 ≤ i := by decide) :
    Reported acc k sent s₀ (s.bump i j n) :=
  h.bump_ne (by have := h.early; unfold objKey at *; omega)

theorem modCtx (h : Reported acc k sent s₀ s) (c : Nat) (f : Ctx → Ctx) : Reported acc k sent s₀ (s.modCtx c f) :=
  h.report rfl rfl rfl

theorem modList (h : Reported acc k sent s₀ s) (id : Nat) (f : CList → CList) : Reported acc k sent s₀ (s.modList id f) :=
  h.report rfl rfl rfl

theorem sweepLists (h : Reported acc k sent s₀ s) : Reported acc k sent s₀ s.sweepLists := h.report rfl rfl rfl

theorem txAppend (h : Reported acc k sent s₀ s) (n : Nat) (bs : List Byte) : Reported acc k sent s₀ (s.txAppend n bs) :=
  h.report rfl rfl rfl

theorem sitePump (h : Reported acc k sent s₀ s) (n ch : Nat) : Reported acc k sent s₀ (s.sitePump n ch) := by
  induction n generalizing s with
  | zero => exact h
  | succ n ih =>
    rw [State.sitePump]
    split
    · exact h
    · exact ih (h.report rfl rfl rfl)

theorem siteFlow (h : Reported acc k sent s₀ s) (ch : Nat) : Reported acc k sent s₀ (s.siteFlow ch) := by
  unfold State.siteFlow
  exact of_ite (h.sitePump _ ch) h

theorem siteOut (h : Reported acc k sent s₀ s) (stream : Nat) (bs : List Byte) :
    Reported acc k sent s₀ (s.siteOut stream bs) := by
  unfold State.siteOut
  split
  · exact h
  · exact foldl (state := id) (fun u ch hu => siteFlow (s := u.setSiteCh ch _) (hu.report rfl rfl rfl) ch) _ h

theorem eventRecord (h : Reported acc k sent s₀ s) (e : List Byte) : Reported acc k sent s₀ (s.eventRecord e) := by
  unfold State.eventRecord
  split
  · exact h
  · exact (foldl (state := id) (fun _ n hu => hu.txAppend n _) _ h).report rfl rfl rfl

theorem logAdd (h : Reported acc k sent s₀ s) (a : LogArgs) : Reported acc k sent s₀ (s.logAdd a) := by
  have hev := h.eventRecord (logBytes s a)
  unfold State.logAdd
  dsimp only
  split
  · exact hev.report rfl rfl rfl
  · have hfull := hev.bump 0x803E 0x0D 1
    split <;> exact hfull.report rfl rfl rfl

/-- A completion recorded as sent. -/
theorem record (h : Reported acc k sent s₀ s) (r : CompRec) :
    Reported acc k (sent ++ [(r.addr, r.status)]) s₀ { s with sched := { s.sched with comps := s.sched.comps ++ [r] } } where
  early := h.early
  rest := h.rest
  ctrWf := h.ctrWf
  count := h.count
  sends := by
    have hsends := h.sends
    unfold Sends at hsends ⊢
    simp [hsends]

theorem sendComp (h : Reported acc k sent s₀ s) (a : Addr) (st : Status) (c detail : Nat) (row : List Byte) :
    Reported acc k (sent ++ [(a, st)]) s₀ (s.sendComp a st c detail row) := by
  have hrow := (h.record ⟨a, st, c, detail, row, s.time⟩).siteOut a.stream row
  unfold State.sendComp
  exact of_ite (hrow.txAppend ..) (hrow.bump 0x8039 0x0E 1)

theorem finalComp (h : Reported acc k sent s₀ s) (a : Addr) (st : Status) (c detail : Nat) (row : List Byte) (hdr : Nat)
    (desc : Desc) : Reported acc k (sent ++ [(a, st)]) s₀ (s.finalComp a st c detail row hdr desc) := by
  unfold State.finalComp
  extract_lets used counted
  have hused : Reported acc k (sent ++ [(a, st)]) s₀ used := (h.sendComp a st c detail row).modCtx ..
  have hcounted : Reported acc k (sent ++ [(a, st)]) s₀ counted := of_ite (hused.bump 0x803E 0x01 1) hused
  exact of_ite hcounted (hcounted.logAdd _)

/-! ## Accesses to memory -/

theorem withMem (h : Reported true k sent s₀ s) (m : List Host.Cell) : Reported true k sent s₀ { s with mem := m } :=
  h.memory rfl rfl rfl

theorem withUe (h : Reported true k sent s₀ s) (u : List (Nat × Bool)) : Reported true k sent s₀ { s with ue := u } :=
  h.memory rfl rfl rfl

theorem withMemsys (h : Reported true k sent s₀ s) (m : MemSys) : Reported true k sent s₀ { s with memsys := m } :=
  h.memory rfl rfl rfl

theorem set (h : Reported true k sent s₀ s) (i j v : Nat) : Reported true k sent s₀ (s.set i j v) := h.memory rfl rfl rfl

theorem modLine (h : Reported true k sent s₀ s) (l : Nat) (f : CacheLine → CacheLine) :
    Reported true k sent s₀ (s.modLine l f) := h.withMemsys _

theorem dropLine (h : Reported true k sent s₀ s) (l : Nat) : Reported true k sent s₀ (s.dropLine l) := h.withMemsys _

theorem unlose (h : Reported true k sent s₀ s) (l : Nat) : Reported true k sent s₀ (s.unlose l) := h.withMemsys _

theorem setTrackers (h : Reported true k sent s₀ s) (l : List Tracker) : Reported true k sent s₀ (s.setTrackers l) :=
  h.withMemsys _

theorem meetAt (h : Reported true k sent s₀ s) (w : Nat × Nat × Nat) (c source : Nat) (quiet : Bool) :
    Reported true k sent s₀ (s.meetAt w c source quiet) := by
  unfold State.meetAt
  have hset := (h.bump 0x8036 (if w.1 == 1 || w.1 == 2 || w.1 == 3 || w.1 == 4 then 0x04 else 0x02) 1).set 0x5006 1
    (ueRecord w.1 w.2.1 w.2.2 c source)
  exact of_ite hset (hset.logAdd _)

theorem meetUe (h : Reported true k sent s₀ s) (a c source : Nat) (quiet : Bool) :
    Reported true k sent s₀ (s.meetUe a c source quiet) := h.meetAt ..

theorem writeBack (h : Reported true k sent s₀ s) (c : CacheLine) : Reported true k sent s₀ (s.writeBack c) := by
  unfold State.writeBack
  split
  · exact h
  split
  · exact (h.unlose c.line).withUe _
  next w _ _ =>
    extract_lets met memsys wiped
    have hmet : Reported true k sent s₀ met := h.meetUe ..
    have hwiped : Reported true k sent s₀ wiped := hmet.memory rfl rfl rfl
    split
    · exact hmet
    split
    · exact hmet.withMemsys _
    · exact ((hwiped.modCtx ..).bump 0x8036 0x05 1).logAdd _

theorem insertLine (h : Reported true k sent s₀ s) (c l : Nat) (dirty pref : Bool) :
    Reported true k sent s₀ (s.insertLine c l dirty pref) := by
  unfold State.insertLine
  extract_lets l pin
  split
  · exact h
  extract_lets ways pinOk counted
  have hcounted : Reported true k sent s₀ counted := of_ite (h.bump 0x8036 0x11 1) h
  split
  · exact h.modLine ..
  split
  next room way heq =>
    refine withMemsys (s := room) ?_ _
    split at heq
    · cases heq
      exact hcounted
    · split at heq <;> cases heq
      · exact (hcounted.writeBack _).dropLine _
      · exact hcounted

theorem takeTracker (h : Reported true k sent s₀ s) (new : Tracker) : Reported true k sent s₀ (s.takeTracker new) := by
  unfold State.takeTracker
  have hfull := h.bump 0x8036 0x12 1
  dsimp only
  split
  · exact hfull
  split
  · exact h.setTrackers _
  split
  · exact hfull
  split
  · exact h.setTrackers _
  · exact hfull

theorem learn (h : Reported true k sent s₀ s) (c l : Nat) : Reported true k sent s₀ (s.learn c l) := by
  unfold State.learn
  dsimp only
  split
  · split
    · exact takeTracker (h.withMemsys _) _
    · exact h.withMemsys _
  · exact h.withMemsys _

theorem trackDemand (h : Reported true k sent s₀ s) (c l : Nat) : Reported true k sent s₀ (s.trackDemand c l) :=
  h.setTrackers _

theorem touchLine (h : Reported true k sent s₀ s) (c a : Nat) (write place declared : Bool) :
    Reported true k sent s₀ (s.touchLine c a write place declared) := by
  unfold State.touchLine
  have htracked := (h.withMemsys { s.memsys with clock := s.memsys.clock + 1 }).trackDemand c (lineBase a)
  dsimp only
  split
  · exact ((htracked.bump 0x8036 0x06 1).bump 0x8036 0x09 _).modLine ..
  · have hmiss := htracked.bump 0x8036 0x07 1
    have hlearned {p : Prop} [Decidable p] := of_ite (p := p) hmiss (hmiss.learn c (lineBase a))
    exact of_ite (hlearned.insertLine ..) hlearned

theorem refreshUnit (h : Reported true k sent s₀ s) (u : Nat) : Reported true k sent s₀ (s.refreshUnit u) := by
  unfold State.refreshUnit
  split
  · exact h.modLine ..
  · exact withUe (of_ite (h.unlose u) h) _

theorem meet {m : Met} (h : Reported true k sent s₀ m.s) (c source u : Nat) : Reported true k sent s₀ (m.meet c source u).s :=
  h.meetUe ..

theorem access {m : Met} (h : Reported true k sent s₀ m.s) (c src : Nat) (a : LineAccess) :
    Reported true k sent s₀ (Met.access c src m a).s := by
  have hmeet (source : Nat) (units : List Nat) {m : Met} (h : Reported true k sent s₀ m.s) :
      Reported true k sent s₀ (units.foldl (fun m u => m.meet c source u) m).s :=
    foldl (state := Met.s) (fun _ u hm => hm.meet c source u) units h
  unfold Met.access
  extract_lets units hbm place found covered part lost done refreshed met kept
  split
  · have hfound : Reported true k sent s₀ found.s := hmeet src units h
    split
    · exact hfound.touchLine ..
    · exact hfound
  · have hrefreshed : Reported true k sent s₀ refreshed.s :=
      foldl (state := id) (fun _ u hs => hs.refreshUnit u) (units.filter covered) h
    have hmet : Reported true k sent s₀ met.s := hmeet 1 part hrefreshed
    have hkept : Reported true k sent s₀ kept.s := by
      unfold kept
      split
      · exact hmet.unlose _
      · exact hmet
    split
    · exact hkept.touchLine ..
    · exact hkept

theorem met (h : Reported true k sent s₀ s) (c : Nat) (touches : List Touch) (before : List Host.Cell) :
    Reported true k sent s₀ (s.met c touches before).1 := by
  have haccessed := foldl (state := Met.s) (fun _ a hm => hm.access c 0 a) (accessesOf touches)
    (x := ⟨s, [], [], false⟩) h
  unfold State.met State.metFrom
  have hrestored := haccessed.withMem
  exact of_ite (modCtx (hrestored _) ..) (hrestored _)

theorem readRow (h : Reported true k sent s₀ s) (c core t i : Nat) : Reported true k sent s₀ (s.readRow c core t i).1 :=
  h.met ..

/-! ## The completions of a command -/

/-- A row is read only where a member's results are valid. -/
theorem complete (h : Reported acc k sent s₀ s) {addrs : List Addr} {st : Status}
    (rows : acc = true ∨ st.valid = false ∨ ∀ a ∈ addrs, a.merged = false) (c detail list hdr : Nat) (desc : Desc) :
    Reported acc k (sent ++ finals addrs st) s₀ (s.complete addrs c st detail list hdr desc) := by
  have hfinals : finals addrs st = addrs.zipIdx.map fun p => (p.1, st) := by
    rw [finals, ← Function.comp_def (fun a => (a, st)) Prod.fst, ← List.map_map, List.zipIdx_map_fst]
  rw [hfinals]
  refine foldl_sends _ (fun p hp sent s h => ?_) h
  refine finalComp ?_ ..
  split
  · split
    next hrow =>
      simp only [Bool.and_eq_true] at hrow
      rcases rows with rfl | hvalid | hunmerged
      · exact h.readRow ..
      · simp [hvalid] at hrow
      · simp [hunmerged p.1 (List.fst_mem_of_mem_zipIdx hp)] at hrow
    · exact h
  · exact h

/-! ## The taking of a list's entry -/

/-- An entry that spells no command counts as refused at dispatch. -/
theorem refuseUnknown (h : ∃ sent, Reported false k sent s₀ s) (hk : k ≠ objKey 0x8032 0x06) (l : CList) :
    ∃ sent, Reported false k sent s₀ (s.refuseUnknown l) := by
  unfold State.refuseUnknown
  split
  · split
    · exact h
    · obtain ⟨sent, h⟩ := h
      exact ⟨_, (bump_ne (complete (h.modList ..) (.inr (.inl rfl)) ..) hk).sweepLists⟩
  · exact h

theorem take (hk : k < objKey 0x8036 0) (hne : k ≠ objKey 0x8032 0x06) (s : State) (d : Dispatch) (desc : Desc) :
    ∃ sent, Reported false k sent s (s.take d desc).1 := by
  have hrefused : ∃ sent, Reported false k sent s s.refuseAllUnknown :=
    List.foldlRecOn (motive := fun t => ∃ sent, Reported false k sent s t) _ _ ⟨[], refl s hk⟩ fun t ht _ _ =>
      List.foldlRecOn (motive := fun t => ∃ sent, Reported false k sent s t) _ _ ht fun u hu l _ => refuseUnknown hu hne l
  obtain ⟨sent, hrefused⟩ := hrefused
  refine ⟨sent, ?_⟩
  unfold State.take
  extract_lets refused
  split
  · extract_lets last next ts times dispatched
    have hnext : Reported false k sent s next := hrefused.modList ..
    exact of_ite (hnext.report rfl rfl rfl) hnext
  · exact hrefused

end Reported

end Sys2Proof.Machine
end

section
/-! PROOF. A weight-gradient command of a frozen layer is skipped at dispatch (R146): the dispatch of such an entry comes to
`State.skip`, which sends DONE to its addresses and counts it, and neither is anything but a report. -/

namespace Sys2Proof.Machine
variable {s : State} {d : Dispatch} {desc : Desc}

/-- The completions of an entry of a frozen layer: its list notes the skip (R147), and each of its addresses gets DONE. -/
def State.sendSkipped (s : State) (d : Dispatch) (desc : Desc) : State :=
  let x := (s.take d desc).2
  ((taken s d desc).modList x.list fun l => { l with skipped := l.skipped ++ [l.next - 1] }).complete
    x.addrs d.ctx .done 0 x.list x.hdr x.desc

/-- What an entry of a frozen layer leaves: its completions, its count in WGRAD_SKIPPED, and no list that is done with. -/
def State.skip (s : State) (d : Dispatch) (desc : Desc) : State := ((s.sendSkipped d desc).bump 0x8033 0x01 1).sweepLists

/-- R146: the frozen layer is looked up before the cores are, so what they are at makes no difference. -/
theorem dispatchCores_eq_skip {ok : State → Bool} {run : State → Sent1 → List Nat → State} (hc : Checked s d desc)
    (hok : ok (taken s d desc) = true) (hf : FrozenEntry s d desc) : s.dispatchCores d desc ok run = s.skip d desc := by
  obtain ⟨hmay, hhdr, -, hset⟩ := hc
  unfold taken at hok hset
  unfold FrozenEntry taken at hf
  simp only [State.dispatchCores, hmay, hhdr, hok, hset, hf, Bool.not_true, Bool.or_self, Bool.false_eq_true, ↓reduceIte]
  rfl

theorem coreCommand_eq_skip (hc : Checked s d desc) (hf : FrozenEntry s d desc) : s.coreCommand d desc = s.skip d desc :=
  dispatchCores_eq_skip hc hc.checks hf

theorem barrier_eq_skip (hc : Checked s d desc) (hf : FrozenEntry s d desc) : s.barrier d desc = s.skip d desc :=
  dispatchCores_eq_skip hc hc.checks hf

section Frame
variable {acc : Bool} {k : Nat} {sent : List (Addr × Status)} {s₀ : State}

theorem Reported.sendSkipped (h : Reported acc k sent s₀ (taken s d desc)) (rows : acc = true ∨ Unmerged s d desc) :
    Reported acc k (sent ++ finals (addrsOf s d desc) .done) s₀ (s.sendSkipped d desc) :=
  (h.modList ..).complete (rows.imp_right .inr) ..

theorem Reported.skip (h : Reported acc k sent s₀ (taken s d desc)) (rows : acc = true ∨ Unmerged s d desc)
    (hne : k ≠ objKey 0x8033 0x01) : Reported acc k (sent ++ finals (addrsOf s d desc) .done) s₀ (s.skip d desc) :=
  ((h.sendSkipped rows).bump_ne hne).sweepLists

end Frame

theorem skip_rises (hwf : smWf 0 s.ctr = true) (hbound : s.ctrAt 0x8033 0x01 ≤ ctrMax) :
    Rises s (s.skip d desc) 0x8033 0x01 1 := by
  obtain ⟨sent, htaken⟩ := Reported.take (k := objKey 0x8033 0x01) (by decide) (by decide) s d desc
  have hsent := htaken.withAccesses.sendSkipped (.inl rfl)
  have hcount : (s.sendSkipped d desc).ctrAt 0x8033 0x01 = s.ctrAt 0x8033 0x01 := hsent.count hwf
  calc (s.skip d desc).ctrAt 0x8033 0x01
      = ((s.sendSkipped d desc).bump 0x8033 0x01 1).ctrAt 0x8033 0x01 := rfl
    _ = min ((s.sendSkipped d desc).ctrAt 0x8033 0x01 + 1) ctrMax :=
        State.ctrAt_bump_self (hsent.ctrWf hwf) (hcount ▸ hbound)
    _ = min (s.ctrAt 0x8033 0x01 + 1) ctrMax := by rw [hcount]

/-- A command whose dispatch comes to `State.skip` has the effects of R146 and no other. -/
theorem completes_of_exec_eq_skip {i : Instr} (hs : Canonical s) (hbound : CountersBounded s)
    (hexec : exec i s = .next (s.skip d desc)) :
    Completes i s fun t => Sends (taken s d desc) t (finals (addrsOf s d desc) .done) ∧ Rises s t 0x8033 1 1
      ∧ t.cores = s.cores ∧ (Unmerged s d desc → CoresUntouched s t) := by
  -- `k := 0`: here no counter matters
  obtain ⟨sent, htaken⟩ := Reported.take (k := 0) (by decide) (by decide) s d desc
  have hsends := (Reported.refl (acc := true) (taken s d desc) htaken.early).skip (.inl rfl) (by decide)
  exact ⟨_, hexec, hsends.sends, skip_rises hs.ctr (hbound ..),
    (htaken.withAccesses.skip (.inl rfl) (by decide)).cores,
    fun hunmerged => (htaken.skip (.inr hunmerged) (by decide)).coresUntouched⟩

/-- Settles O16: MATMUL to LOADREG are core commands, BARRIER has a dispatch of its own; both look the frozen layer up first. -/
theorem frozenLayerSkipsTheCommand : Obligations.FrozenLayerSkipsTheCommand := by
  intro s d hs hbound
  have core {i : Instr} {desc : Desc} (hexec : exec i s = .next (s.coreCommand d desc)) (hc : Checked s d desc)
      (hf : FrozenEntry s d desc) := completes_of_exec_eq_skip hs hbound (hexec.trans (congrArg _ (coreCommand_eq_skip hc hf)))
  have barrier {i : Instr} {desc : Desc} (hexec : exec i s = .next (s.barrier d desc)) (hc : Checked s d desc)
      (hf : FrozenEntry s d desc) := completes_of_exec_eq_skip hs hbound (hexec.trans (congrArg _ (barrier_eq_skip hc hf)))
  simp only [List.forall_mem_cons]
  exact ⟨core rfl, core rfl, core rfl, core rfl, core rfl, core rfl, core rfl, barrier rfl, fun _ h => nomatch h⟩

end Sys2Proof.Machine
end
